-- ==== Sys2Proof/Word.lean ====
section
/-! DEFINITION. The widths of the block's registers, ports and decode words (00_scope.md R4, R5), and the two small
data types that everything else is written over: the three decode-word formats and a stimulus line. -/

namespace Sys2Proof

/-- A one-bit register, input sample or predicate; `true` is the level 1 (log 7). -/
abbrev Bit := Bool

/-- The input vector of one tick, `IV[2:0] = {rst, start, echo}` (30_encoding.md R71). -/
abbrev InputVector := BitVec 3

/-- The state code `st`, `W_ST` = 3 bits (R11, R60). -/
abbrev StCode := BitVec 3

/-- The trigger phase counter `ph`, `W_PH` = 4 bits (R12). -/
abbrev Phase := BitVec 4

/-- The microsecond counter `cnt`, `W_CNT` = 16 bits (R14). -/
abbrev Count := BitVec 16

/-- A value of the millisecond tick source, `W_MS` = 16 bits (R16, R18). -/
abbrev Millis := BitVec 16

/-- The millisecond divider `ms_div`, `W_DIV` = 10 bits (R17). -/
abbrev Divider := BitVec 10

/-- The result distance in units of 0.001 cm, `W_DIST` = 19 bits (R19, R62). -/
abbrev Dist := BitVec 19

/-- The product `17 * d` before the filter, 21 bits (42_convert_resolve.md R100). -/
abbrev RawDist := BitVec 21

/-- The cause code, `W_CAUSE` = 2 bits (R21, R61). -/
abbrev CauseCode := BitVec 2

/-- The phase class `pc` of the FSM decode word, 2 bits (R64). -/
abbrev PhaseClass := BitVec 2

/-- The three decode-word formats: one for each unit of the block (30_encoding.md R63, R65, R64). -/
inductive Format where
  /-- `MW`, the word of the millisecond tick source (R63). -/
  | ms
  /-- `CW`, the word of the microsecond counter (R65). -/
  | cnt
  /-- `FW`, the word of the state machine (R64). -/
  | fsm
deriving DecidableEq, Repr

/-- How many bits a decode word of each format has (R63, R64, R65). -/
abbrev Format.width : Format → Nat
  | .ms => 2
  | .cnt => 2
  | .fsm => 9

/-- A decode word: the bits that select the operation of one unit at one tick. -/
abbrev DecodeWord (f : Format) := BitVec f.width

/-- One encoded stimulus line (R71): the input vector `iv`, held for `n` ticks. -/
structure StimLine where
  n : Nat
  iv : InputVector
deriving DecidableEq, Repr

end Sys2Proof
end

