-- ==== Sys2Proof/Config.lean ====
section
/-! DEFINITION. What an implementation of the block fixes: the parameters of 00_scope.md R4, the codes of
30_encoding.md R60 and R61, and the one open value, the input samples that the environment chooses. -/

namespace Sys2Proof

namespace Config

/-- `TRIG_PRE` = 2: ticks `trig` is low from the accepted start until it rises (R4, D7). -/
abbrev trigPre : Nat := 2

/-- `TRIG_HIGH` = 10: ticks `trig` is high (R4). -/
abbrev trigHigh : Nat := 10

/-- `TIMEOUT_MS` = 30: each of the two deadlines, in milliseconds (R4). -/
abbrev timeoutMs : Nat := 30

/-- `MS_DIV` = 1000: ticks in one millisecond (R4). -/
abbrev ticksPerMs : Nat := 1000

/-- `SCALE_NUM` = 17: units of 0.001 cm for each microsecond (R4, R70). -/
abbrev scaleNum : Nat := 17

/-- `MIN_MCM` = 2000: the lower plausibility bound, itself plausible (R4). -/
abbrev minMcm : Nat := 2000

/-- `MAX_MCM` = 400000: the upper plausibility bound, itself plausible (R4). -/
abbrev maxMcm : Nat := 400000

/-- `MIN_CYCLE_GAP` = 0: the least number of ticks the block itself enforces between two cycles (R4, R149). No
operation reads it: a start is accepted at the first tick of `RESOLVED`. -/
abbrev minCycleGap : Nat := 0

/-- The input vector presented at tick number `t` when no stimulus line says what it is: a FREE VALUE, chosen by the
environment (R9.1, R42; log 1). It has no body: nothing can be proved of it. -/
opaque freeInput (t : Nat) : InputVector

end Config

/-! ## State codes (R60) -/

namespace St

/-- `IDLE` = 0. -/
abbrev idle : StCode := 0
/-- `TRIGGERING` = 1. -/
abbrev triggering : StCode := 1
/-- `WAIT_ECHO_RISE` = 2. -/
abbrev waitEchoRise : StCode := 2
/-- `TIMING` = 3. -/
abbrev timing : StCode := 3
/-- `WAIT_ECHO_FALL` = 4. -/
abbrev waitEchoFall : StCode := 4
/-- `RESOLVED` = 5. -/
abbrev resolved : StCode := 5

end St

/-! ## Cause codes (R61) -/

namespace Cause

/-- `NONE` = 0. -/
abbrev none : CauseCode := 0
/-- `TIMEOUT_RISE` = 1. -/
abbrev timeoutRise : CauseCode := 1
/-- `TIMEOUT_FALL` = 2. -/
abbrev timeoutFall : CauseCode := 2
/-- `OUT_OF_RANGE` = 3. -/
abbrev outOfRange : CauseCode := 3

end Cause

/-! ## Phase classes (R64) -/

namespace Pc

/-- `LOW` = 0. -/
abbrev low : PhaseClass := 0
/-- `HIGH` = 1. -/
abbrev high : PhaseClass := 1
/-- `END` = 2. -/
abbrev ended : PhaseClass := 2

end Pc

end Sys2Proof
end

