-- ==== Sys2Proof/Machine/State.lean ====
section
/-! DEFINITION. The whole architectural state of the block (10_state.md R10), the environment's samples still to come, and
the reasons a step could stop (there are none). -/

namespace Sys2Proof.Machine

/-- The eleven registers of R10, and after them the two fields of the model's own that hold the environment (log 1). -/
structure State where
  /-- `st`: the state of the state machine, coded by R60; codes 6 and 7 are reserved (R11, R69; log 8). -/
  st : StCode
  /-- `ph`: how many ticks of `TRIGGERING` have been executed in this cycle (R12). -/
  ph : Phase
  /-- `trig`: the level driven on the trigger line (R13). -/
  trig : Bit
  /-- `cnt`: the microsecond counter (R14). -/
  cnt : Count
  /-- `run`: 1 while the microsecond counter is counting (R15). -/
  run : Bit
  /-- `t0`: the value of `ms_now` latched at the start of the current wait (R16). -/
  t0 : Millis
  /-- `ms_div`: ticks since the last millisecond tick (R17). -/
  msDiv : Divider
  /-- `ms_now`: the millisecond tick source, modulo 65536 (R18). -/
  msNow : Millis
  /-- `dist`: the result distance in units of 0.001 cm, or 0 (R19). -/
  dist : Dist
  /-- `valid`: the result's valid flag (R20). -/
  valid : Bit
  /-- `cause`: why the last resolved cycle was invalid, coded by R61 (R21). -/
  cause : CauseCode
  /-- MODEL'S OWN: the stimulus lines whose samples the environment has still to present (R71; log 1). -/
  lines : List StimLine
  /-- MODEL'S OWN: the number of the next tick (R7); only the free input sample depends on it (log 1). -/
  tick : Nat
deriving DecidableEq, Repr

/-- Why the machine stops with a fault: never. The block has no trap, no stuck state and no fatal condition (R9.5, R49,
R120, R141), so the type has no constructor and no claim can be hollow for want of one (log 10). -/
inductive Fault where
deriving DecidableEq, Repr

/-- Why an operation is refused. -/
inductive Refusal where
  /-- Raised by an arm of `exec` whose operation has no meaning yet; no arm does. Safe. -/
  | notModelled (mnemonic : String)
deriving DecidableEq, Repr

/-- The machine right after reset: every register 0, `st` = `IDLE`, `cause` = `NONE` (R28, R140). No sample is fixed, so
every input from here on is the environment's free choice (log 1). -/
def State.reset : State where
  st := St.idle
  ph := 0
  trig := false
  cnt := 0
  run := false
  t0 := 0
  msDiv := 0
  msNow := 0
  dist := 0
  valid := false
  cause := Cause.none
  lines := []
  tick := 0

/-- One step's or one operation's outcome. -/
abbrev Result := Host.Outcome State Fault Refusal

end Sys2Proof.Machine
end

