-- ==== Sys2Proof/Machine/Ops.lean ====
section
/-! DEFINITION. The shared register operations that the meanings are written over, and how the three input bits of a tick
are taken from the environment. Every meaning is a composition of these: a register not written keeps its value (R6). -/

namespace Sys2Proof.Machine

/-! ## The input samples (R42) -/

/-- The next sample that a list of stimulus lines presents, and the lines that are left after it (R71). A line of 0
ticks presents no sample (log 6). -/
def nextSample : List StimLine → Option (InputVector × List StimLine)
  | [] => none
  | l :: rest =>
    match l.n with
    | 0 => nextSample rest
    | 1 => some (l.iv, rest)
    | n + 2 => some (l.iv, ⟨n + 1, l.iv⟩ :: rest)

/-- `IV = {rst, start, echo}` of this tick: from the stimulus lines, or, when they are used up, whatever the environment
chooses (R9.1, R42; log 1). -/
def State.input (s : State) : InputVector :=
  match nextSample s.lines with
  | some (iv, _) => iv
  | none => Config.freeInput s.tick

/-- The tick's sample has been taken; no register changes (R42: each input is sampled exactly once per tick). -/
def State.takeInput (s : State) : State :=
  { s with
    lines := match nextSample s.lines with
      | some (_, rest) => rest
      | none => []
    tick := s.tick + 1 }

/-- `In(rst)` = `IV[2]` (R6, R71). -/
def ivRst (iv : InputVector) : Bit := iv.getLsbD 2
/-- `In(start)` = `IV[1]` (R6, R71). -/
def ivStart (iv : InputVector) : Bit := iv.getLsbD 1
/-- `In(echo)` = `IV[0]` (R6, R71). -/
def ivEcho (iv : InputVector) : Bit := iv.getLsbD 0
/-- `IV[2:0] = {rst, start, echo}` (R71). -/
def ivOf (rst start echo : Bit) : InputVector :=
  (BitVec.ofBool rst ++ BitVec.ofBool start ++ BitVec.ofBool echo : BitVec 3)

/-! ## Sequencing -/

/-- Do `f` next, unless the machine has stopped. -/
def andThen (o : Result) (f : State → Result) : Result :=
  match o with
  | .next s => f s
  | .fault r => .fault r
  | .refused r => .refused r

/-! ## Reset (R28, R140) -/

/-- Every one of the eleven registers to 0. The environment is no register: what it has still to present stays. -/
def clearAll (s : State) : State :=
  { State.reset with lines := s.lines, tick := s.tick }

/-! ## The time base (R110 to R113) -/

/-- `ms_div <- ms_div + 1` (R110). -/
def advanceDivider (s : State) : State := { s with msDiv := s.msDiv + 1 }

/-- `ms_div <- 0; ms_now <- (ms_now + 1) mod 65536` (R111). -/
def advanceMillis (s : State) : State := { s with msDiv := 0, msNow := s.msNow + 1 }

/-- `cnt <- (cnt + 1) mod 65536` (R113). -/
def countMicro (s : State) : State := { s with cnt := s.cnt + 1 }

/-- `cnt <- 0; run <- 1` (R91): reset and start the microsecond counter. -/
def startCounter (s : State) : State := { s with cnt := 0, run := true }

/-- `run <- 0` (R95, R96): stop the microsecond counter; `cnt` keeps its value. -/
def stopCounter (s : State) : State := { s with run := false }

/-- `t0 <- ms_now` (R84, R93): a wait's deadline starts here. -/
def latchDeadline (s : State) : State := { s with t0 := s.msNow }

/-! ## The state register and the trigger line -/

/-- `st <- c` (R6: the analogue of a jump). -/
def goTo (c : StCode) (s : State) : State := { s with st := c }

/-- `trig <- level; ph <- ph + 1` (R82, R83). -/
def driveTrigger (level : Bit) (s : State) : State := { s with trig := level, ph := s.ph + 1 }

/-- `trig <- 0; ph <- 0`: the trigger line low and the phase counter at rest (R81, R84, R105, R106). -/
def restTrigger (s : State) : State := { s with trig := false, ph := 0 }

/-! ## The result registers -/

/-- `dist <- d; valid <- v; cause <- c`. -/
def writeResult (d : Dist) (v : Bit) (c : CauseCode) (s : State) : State :=
  { s with dist := d, valid := v, cause := c }

/-- `dist <- 0; valid <- 0; cause <- NONE` (R81, R105, R106). -/
def clearResult (s : State) : State := writeResult 0 false Cause.none s

/-- TAKING A CONDITION, the one way a condition takes effect (60_exceptions.md R123, `resolve_invalid`): the zero/invalid
sentinel with its cause code, and on to `RESOLVED`. Nothing is saved (R123). -/
def resolveInvalid (c : CauseCode) (s : State) : State := goTo St.resolved (writeResult 0 false c s)

/-- The fourth way into `RESOLVED`, the valid outcome (R95, R123). -/
def resolveValid (d : Dist) (s : State) : State := goTo St.resolved (writeResult d true Cause.none s)

/-- THE RETURN FROM A CONDITION, and the beginning of every cycle (R126; the register writes of R81 and R105 are
identical): the result and the cause are cleared and `TRIGGERING` is entered. -/
def beginCycle (s : State) : State :=
  goTo St.triggering (clearResult (stopCounter (restTrigger s)))

/-- Back to `IDLE` with the trigger low, the counter stopped and the result cleared (R106). -/
def recoverIdle (s : State) : State :=
  goTo St.idle (clearResult (stopCounter (restTrigger s)))

end Sys2Proof.Machine
end

