-- ==== Sys2Proof/Machine/Flags.lean ====
section
/-! DEFINITION. The predicates and the arithmetic of the block (43_timebase.md R114, R116; 42_convert_resolve.md R100,
R101; 30_encoding.md R63, R64): everything the spec computes from registers rather than stores. -/

namespace Sys2Proof.Machine

/-- `wrap = 1 if ms_div >= 999 else 0` (R63): the unreachable values 1000 to 1023 are classed with 999. -/
def wraps (d : Divider) : Bit := decide (Config.ticksPerMs - 1 ≤ d.toNat)

/-- The phase class of `ph` (R64): `LOW` if `ph < TRIG_PRE - 1`, `HIGH` if `ph < TRIG_PRE - 1 + TRIG_HIGH`, else `END`. -/
def phaseClass (ph : Phase) : PhaseClass :=
  if ph.toNat < Config.trigPre - 1 then Pc.low
  else if ph.toNat < Config.trigPre - 1 + Config.trigHigh then Pc.high
  else Pc.ended

/-- `elapsed_ms = (ms_now - t0) mod 65536` (R114). -/
def elapsedMs (now t0 : Millis) : Millis := now - t0

/-- `expired = 1 if elapsed_ms > 30 else 0`, strictly (R114). -/
def expired (now t0 : Millis) : Bit := decide (Config.timeoutMs < (elapsedMs now t0).toNat)

/-- `convert(d) = 17 * zext_21(d)` (R100): the distance in units of 0.001 cm. -/
def convert (d : Count) : RawDist := BitVec.ofNat 21 Config.scaleNum * d.setWidth 21

/-- `plausible(raw) = (raw >= 2000) and (raw <= 400000)` (R101). -/
def plausible (raw : RawDist) : Bit :=
  decide (Config.minMcm ≤ raw.toNat) && decide (raw.toNat ≤ Config.maxMcm)

/-- `busy = 1 if st in {1, 2, 3, 4} else 0` (R25). -/
def busyIn (c : StCode) : Bit :=
  c == St.triggering || c == St.waitEchoRise || c == St.timing || c == St.waitEchoFall

/-- `done = 1 if st == 5 else 0` (R25). -/
def doneIn (c : StCode) : Bit := c == St.resolved

end Sys2Proof.Machine
end

