-- ==== Sys2Proof/Machine/EchoWait.lean ====
section
/-! DEFINITION. The meanings of the second family of the FSM unit: waiting for the echo and timing it (41_echo_wait.md R90
to R96). -/

namespace Sys2Proof.Machine

/-- `RISE.POLL` (R90): no register is written, `trig` neither (log 15). -/
def execRisePoll (s : State) : Result := .next s

/-- `RISE.EDGE` (R91): reset and start the microsecond counter. -/
def execRiseEdge (s : State) : Result := .next (goTo St.timing (startCounter s))

/-- `RISE.TIMEOUT` (R92): the first deadline is exceeded; `Timeout` is raised (R121). -/
def execRiseTimeout (s : State) : Result := .next (resolveInvalid Cause.timeoutRise s)

/-- `TIMING.ARM` (R93): latch the second deadline and begin polling for the falling edge. -/
def execTimingArm (s : State) : Result := .next (goTo St.waitEchoFall (latchDeadline s))

/-- `FALL.POLL` (R94): no register is written by the FSM unit, `trig` neither (log 15). -/
def execFallPoll (s : State) : Result := .next s

/-- What `FALL.EDGE` does with the product `raw` (R95): a plausible one is the valid result, any other raises
`OutOfPlausibleRange` (R122). -/
def resolveMeasured (raw : RawDist) (s : State) : State :=
  if plausible raw then resolveValid (raw.setWidth 19) s else resolveInvalid Cause.outOfRange s

/-- `FALL.EDGE` (R95): stop the counter, read `d`, convert, filter, resolve. -/
def execFallEdge (s : State) : Result := .next (resolveMeasured (convert s.cnt) (stopCounter s))

/-- `FALL.TIMEOUT` (R96): the second deadline is exceeded; the counter stops and `Timeout` is raised (R121). -/
def execFallTimeout (s : State) : Result := .next (resolveInvalid Cause.timeoutFall (stopCounter s))

end Sys2Proof.Machine
end

