-- ==== Sys2Proof/Machine/Reset.lean ====
section
/-! DEFINITION. The meaning of `RESET` (70_reset_and_hazards.md R140). -/

namespace Sys2Proof.Machine

/-- `RESET` (R140): every register to its reset value, whatever it held and whatever the other inputs are. -/
def execReset (s : State) : Result := .next (clearAll s)

end Sys2Proof.Machine
end

