-- ==== Sys2Proof/Machine/Resolve.lean ====
section
/-! DEFINITION. The meanings of the third family of the FSM unit: the resolved state and recovery (42_convert_resolve.md
R104 to R106). -/

namespace Sys2Proof.Machine

/-- `RES.HOLD` (R104): no register is written, `trig` neither (log 15); the result stays on the outputs. -/
def execResHold (s : State) : Result := .next s

/-- `RES.START` (R105, R126): accept the next invocation from `RESOLVED`. -/
def execResStart (s : State) : Result := .next (beginCycle s)

/-- `BAD.RECOVER` (R106): leave a reserved state code. -/
def execBadRecover (s : State) : Result := .next (recoverIdle s)

end Sys2Proof.Machine
end

