-- ==== Sys2Proof/Machine/TimeBase.lean ====
section
/-! DEFINITION. The meanings of the MS unit and of the CNT unit (43_timebase.md R110 to R113). -/

namespace Sys2Proof.Machine

/-- `MS.DIV` (R110): advance the divider. -/
def execMsDiv (s : State) : Result := .next (advanceDivider s)

/-- `MS.WRAP` (R111): one millisecond has passed. -/
def execMsWrap (s : State) : Result := .next (advanceMillis s)

/-- `CNT.HOLD` (R112): the counter is stopped; no register is written. -/
def execCntHold (s : State) : Result := .next s

/-- `CNT.INC` (R113): the counter counts one microsecond. -/
def execCntInc (s : State) : Result := .next (countMicro s)

end Sys2Proof.Machine
end

