-- ==== Sys2Proof/Machine/Trigger.lean ====
section
/-! DEFINITION. The meanings of the first family of the FSM unit: idle and the trigger pulse (40_trigger.md R80 to R84). -/

namespace Sys2Proof.Machine

/-- `IDLE.HOLD` (R80): no register is written, `trig` neither. DEDUCED (log 15): a trigger line that is high in `IDLE`, which
only a state before the first reset can show, stays high, where a clause of R141 has it low. -/
def execIdleHold (s : State) : Result := .next s

/-- `IDLE.START` (R81): accept an invocation and begin a cycle. -/
def execIdleStart (s : State) : Result := .next (beginCycle s)

/-- `TRIG.LOW` (R82): the second low tick before the pulse. -/
def execTrigLow (s : State) : Result := .next (driveTrigger false s)

/-- `TRIG.HIGH` (R83): one tick of the high part of the pulse. -/
def execTrigHigh (s : State) : Result := .next (driveTrigger true s)

/-- `TRIG.END` (R84): end the pulse, latch the first deadline, begin polling for the rising edge. -/
def execTrigEnd (s : State) : Result := .next (goTo St.waitEchoRise (latchDeadline (restTrigger s)))

end Sys2Proof.Machine
end

