-- ==== Sys2Proof/Syntax.lean ====
section
/-! DEFINITION. The operations of the block, one constructor for each row of spec/opcode_table.json
(30_encoding.md R67). No operation carries an operand or an immediate (R70): the bits of a decode word that do not
select the operation do not matter (R64; log 5). -/

namespace Sys2Proof

/-- The twenty operations (R67), in the table's order. -/
inductive Instr where
  /-- `RESET` (70_reset_and_hazards.md R140). -/
  | reset
  /-- `MS.DIV` (43_timebase.md R110). -/
  | msDiv
  /-- `MS.WRAP` (R111). -/
  | msWrap
  /-- `CNT.HOLD` (R112). -/
  | cntHold
  /-- `CNT.INC` (R113). -/
  | cntInc
  /-- `IDLE.HOLD` (40_trigger.md R80). -/
  | idleHold
  /-- `IDLE.START` (R81). -/
  | idleStart
  /-- `TRIG.LOW` (R82). -/
  | trigLow
  /-- `TRIG.HIGH` (R83). -/
  | trigHigh
  /-- `TRIG.END` (R84). -/
  | trigEnd
  /-- `RISE.POLL` (41_echo_wait.md R90). -/
  | risePoll
  /-- `RISE.EDGE` (R91). -/
  | riseEdge
  /-- `RISE.TIMEOUT` (R92). -/
  | riseTimeout
  /-- `TIMING.ARM` (R93). -/
  | timingArm
  /-- `FALL.POLL` (R94). -/
  | fallPoll
  /-- `FALL.EDGE` (R95). -/
  | fallEdge
  /-- `FALL.TIMEOUT` (R96). -/
  | fallTimeout
  /-- `RES.HOLD` (42_convert_resolve.md R104). -/
  | resHold
  /-- `RES.START` (R105). -/
  | resStart
  /-- `BAD.RECOVER` (R106). -/
  | badRecover
deriving DecidableEq, Repr

end Sys2Proof
end

