-- ==== Sys2Proof/Machine/Dispatch.lean ====
section
/-! DEFINITION. One arm per operation: the meaning each constructor of Instr has. -/

namespace Sys2Proof.Machine

def exec (i : Instr) (s : State) : Host.Outcome State Fault Refusal :=
  match i with
  | .reset => Sys2Proof.Machine.execReset s
  -- the MS unit
  | .msDiv => Sys2Proof.Machine.execMsDiv s
  | .msWrap => Sys2Proof.Machine.execMsWrap s
  -- the CNT unit
  | .cntHold => Sys2Proof.Machine.execCntHold s
  | .cntInc => Sys2Proof.Machine.execCntInc s
  -- the FSM unit: idle and the trigger pulse
  | .idleHold => Sys2Proof.Machine.execIdleHold s
  | .idleStart => Sys2Proof.Machine.execIdleStart s
  | .trigLow => Sys2Proof.Machine.execTrigLow s
  | .trigHigh => Sys2Proof.Machine.execTrigHigh s
  | .trigEnd => Sys2Proof.Machine.execTrigEnd s
  -- the FSM unit: the echo waits
  | .risePoll => Sys2Proof.Machine.execRisePoll s
  | .riseEdge => Sys2Proof.Machine.execRiseEdge s
  | .riseTimeout => Sys2Proof.Machine.execRiseTimeout s
  | .timingArm => Sys2Proof.Machine.execTimingArm s
  | .fallPoll => Sys2Proof.Machine.execFallPoll s
  | .fallEdge => Sys2Proof.Machine.execFallEdge s
  | .fallTimeout => Sys2Proof.Machine.execFallTimeout s
  -- the FSM unit: resolved and recovery
  | .resHold => Sys2Proof.Machine.execResHold s
  | .resStart => Sys2Proof.Machine.execResStart s
  | .badRecover => Sys2Proof.Machine.execBadRecover s

end Sys2Proof.Machine
end

