-- ==== Sys2Proof/WellFormed.lean ====
section
/-! DEFINITION. The two checks a term of the model can fail: an operation asked for in the word of a unit that does
not execute it (30_encoding.md R63, R64, R65, R67), and a stimulus line that lasts no tick (R71). -/

namespace Sys2Proof

/-- Whether operation `i` has an encoding in format `f`: `RESET` in all three (R140), every other operation in the
format of its own unit only (R67). -/
def Instr.wellFormed (f : Format) (i : Instr) : Bool :=
  match i with
  | .reset => true
  | .msDiv | .msWrap => f == .ms
  | .cntHold | .cntInc => f == .cnt
  | .idleHold | .idleStart | .trigLow | .trigHigh | .trigEnd | .risePoll | .riseEdge | .riseTimeout
  | .timingArm | .fallPoll | .fallEdge | .fallTimeout | .resHold | .resStart | .badRecover => f == .fsm

/-- R71: a stimulus line lasts at least one tick. -/
def StimLine.wellFormed (l : StimLine) : Bool := decide (1 ≤ l.n)

end Sys2Proof
end

