-- ==== Sys2Proof/Decode.lean ====
section
/-! DEFINITION. From decode words to operations and back (30_encoding.md R63, R64, R65; opcode_table.json). The decoder
pulls the fields out of a word and selects by them; the encoder is written from the table's match and mask. The two are
separate transcriptions of the spec: the laws say that they agree. -/

namespace Sys2Proof

/-! ## Fields of the words -/

/-- `MW[1] = rst` (R63). -/
def mwRst (w : DecodeWord .ms) : Bit := w.getLsbD 1
/-- `MW[0] = wrap` (R63). -/
def mwWrap (w : DecodeWord .ms) : Bit := w.getLsbD 0

/-- `CW[1] = rst` (R65). -/
def cwRst (w : DecodeWord .cnt) : Bit := w.getLsbD 1
/-- `CW[0] = run` (R65). -/
def cwRun (w : DecodeWord .cnt) : Bit := w.getLsbD 0

/-- `FW[8] = rst` (R64). -/
def fwRst (w : DecodeWord .fsm) : Bit := w.getLsbD 8
/-- `FW[7:5] = st` (R64). -/
def fwSt (w : DecodeWord .fsm) : StCode := w.extractLsb' 5 3
/-- `FW[4] = start` (R64). -/
def fwStart (w : DecodeWord .fsm) : Bit := w.getLsbD 4
/-- `FW[3] = echo` (R64). -/
def fwEcho (w : DecodeWord .fsm) : Bit := w.getLsbD 3
/-- `FW[2] = x`, the `expired` predicate (R64). -/
def fwExpired (w : DecodeWord .fsm) : Bit := w.getLsbD 2
/-- `FW[1:0] = pc`, the phase class (R64). -/
def fwPc (w : DecodeWord .fsm) : PhaseClass := w.extractLsb' 0 2

/-! ## Words from their fields -/

/-- `MW = {rst, wrap}` (R63). -/
def mwOf (rst wrap : Bit) : DecodeWord .ms := (BitVec.ofBool rst ++ BitVec.ofBool wrap : BitVec 2)

/-- `CW = {rst, run}` (R65). -/
def cwOf (rst run : Bit) : DecodeWord .cnt := (BitVec.ofBool rst ++ BitVec.ofBool run : BitVec 2)

/-- `FW = {rst, st, start, echo, x, pc}` (R64). -/
def fwOf (rst : Bit) (st : StCode) (start echo x : Bit) (pc : PhaseClass) : DecodeWord .fsm :=
  (BitVec.ofBool rst ++ st ++ BitVec.ofBool start ++ BitVec.ofBool echo ++ BitVec.ofBool x ++ pc : BitVec 9)

/-! ## Selection by the fields -/

/-- The table of R63. With `rst` = 1 the MS unit has no operation of its own: `RESET` overrides (R63, R140; log 4). -/
def selectMs (rst wrap : Bit) : Instr :=
  if rst then .reset else if wrap then .msWrap else .msDiv

/-- The table of R65. With `rst` = 1 the CNT unit has no operation of its own: `RESET` overrides (R65, R140; log 4). -/
def selectCnt (rst run : Bit) : Instr :=
  if rst then .reset else if run then .cntInc else .cntHold

/-- The patterns of R64. A phase class with its high bit set, the never produced 3 among them, is `TRIG.END` (R69). -/
def selectFsm (rst : Bit) (st : StCode) (start echo x : Bit) (pc : PhaseClass) : Instr :=
  if rst then .reset
  else if st = St.idle then (if start then .idleStart else .idleHold)
  else if st = St.triggering then
    (if pc = Pc.low then .trigLow else if pc = Pc.high then .trigHigh else .trigEnd)
  else if st = St.waitEchoRise then
    (if echo then .riseEdge else if x then .riseTimeout else .risePoll)
  else if st = St.timing then .timingArm
  else if st = St.waitEchoFall then
    (if echo then (if x then .fallTimeout else .fallPoll) else .fallEdge)
  else if st = St.resolved then (if start then .resStart else .resHold)
  else .badRecover

/-- The operation a decode word selects; total on every word of every format (R63, R64, R65). -/
def decode : (f : Format) → DecodeWord f → Instr
  | .ms, w => selectMs (mwRst w) (mwWrap w)
  | .cnt, w => selectCnt (cwRst w) (cwRun w)
  | .fsm, w => selectFsm (fwRst w) (fwSt w) (fwStart w) (fwEcho w) (fwExpired w) (fwPc w)

/-- Why a number is no decode word. -/
inductive DecodeReject where
  /-- A bit above the width of the format is set: no word of the format has such a bit (R69: each decode word has one
  fixed length). Safe. -/
  | bitsAboveWidth (f : Format)
deriving DecidableEq, Repr

/-- The decoder on any number: the operation, or a rejection by name. -/
def decodeNat (f : Format) (w : Nat) : Except DecodeReject Instr :=
  if w < 2 ^ f.width then .ok (decode f (BitVec.ofNat f.width w)) else .error (.bitsAboveWidth f)

/-- Which format a table word of `nbits` bits (whole bytes) is read in. The two-bit formats fill one byte, `FW` two. A
word of one byte is read as `MW`: the table's `CW` rows have the very same bits and are named by the unit only (log 3). -/
def tableFormat (nbits : Nat) : Format :=
  if nbits ≤ 8 then .ms else .fsm

/-- The operation the decoder reads from a table word, as spec/opcode_table.json numbers its bits. -/
def decodeTableWord (nbits w : Nat) : Option Instr :=
  match decodeNat (tableFormat nbits) w with
  | .ok i => some i
  | .error _ => none

/-! ## The encoder -/

/-- The (match, mask) pair of an operation in a format, from opcode_table.json (and R140 for the `MW` and `CW` words of
`RESET`); none where the operation has no word of that format. -/
def pattern : (f : Format) → Instr → Option (DecodeWord f × DecodeWord f)
  | .ms, .reset => some (0b10#2, 0b10#2)
  | .ms, .msDiv => some (0b00#2, 0b11#2)
  | .ms, .msWrap => some (0b01#2, 0b11#2)
  | .cnt, .reset => some (0b10#2, 0b10#2)
  | .cnt, .cntHold => some (0b00#2, 0b11#2)
  | .cnt, .cntInc => some (0b01#2, 0b11#2)
  | .fsm, .reset => some (0x100#9, 0x100#9)
  | .fsm, .idleHold => some (0x000#9, 0x1F0#9)
  | .fsm, .idleStart => some (0x010#9, 0x1F0#9)
  | .fsm, .trigLow => some (0x020#9, 0x1E3#9)
  | .fsm, .trigHigh => some (0x021#9, 0x1E3#9)
  | .fsm, .trigEnd => some (0x022#9, 0x1E2#9)
  | .fsm, .risePoll => some (0x040#9, 0x1EC#9)
  | .fsm, .riseEdge => some (0x048#9, 0x1E8#9)
  | .fsm, .riseTimeout => some (0x044#9, 0x1EC#9)
  | .fsm, .timingArm => some (0x060#9, 0x1E0#9)
  | .fsm, .fallPoll => some (0x088#9, 0x1EC#9)
  | .fsm, .fallEdge => some (0x080#9, 0x1E8#9)
  | .fsm, .fallTimeout => some (0x08C#9, 0x1EC#9)
  | .fsm, .resHold => some (0x0A0#9, 0x1F0#9)
  | .fsm, .resStart => some (0x0B0#9, 0x1F0#9)
  | .fsm, .badRecover => some (0x0C0#9, 0x1C0#9)
  | _, _ => none

/-- The word of operation `i` in format `f` whose bits that do not matter are those of `fill` (R64: the letters of a
pattern); none where the operation has no word of that format. -/
def encode (f : Format) (i : Instr) (fill : DecodeWord f) : Option (DecodeWord f) :=
  match pattern f i with
  | some (bits, mask) => some (bits ||| (fill &&& ~~~mask))
  | none => none

/-- Whether word `w` of format `f` is one of the words the table's row for `i` stands for. -/
def matchesPattern (f : Format) (i : Instr) (w : DecodeWord f) : Bool :=
  match pattern f i with
  | some (bits, mask) => w &&& mask == bits
  | none => false

end Sys2Proof
end

