-- ==== Sys2Proof/Machine/Operands.lean ====
section
/-! DEFINITION. What an operation of the block reads: its decode word, formed at each tick from the registers and the
sampled inputs (30_encoding.md R63, R64, R65, R66). This is the analogue of fetching an instruction (log 2), and beside
it stands the arrangement of registers and inputs under which a given word is formed. -/

namespace Sys2Proof.Machine

/-! ## Forming the decode words -/

/-- `MW = {rst, wrap}`, from `ms_div` before the tick (R63). -/
def msWord (iv : InputVector) (s : State) : DecodeWord .ms := mwOf (ivRst iv) (wraps s.msDiv)

/-- `CW = {rst, run}`, from `run` before the tick (R65). -/
def cntWord (iv : InputVector) (s : State) : DecodeWord .cnt := cwOf (ivRst iv) s.run

/-- `FW = {rst, st, start, echo, x, pc}`; for the state after the MS and CNT units, so that `x` is the predicate of the
updated `ms_now` (R64, R66). -/
def fsmWord (iv : InputVector) (s : State) : DecodeWord .fsm :=
  fwOf (ivRst iv) s.st (ivStart iv) (ivEcho iv) (expired s.msNow s.t0) (phaseClass s.ph)

/-! ## Arranging that a given word is formed (log 2) -/

/-- A divider value whose `wrap` bit is `b`; the one there is if it has it already. -/
def dividerFor (b : Bit) (d : Divider) : Divider :=
  if wraps d = b then d else if b then 999 else 0

/-- A phase whose class is `pc` (3, which the classifier never produces, is met by the class `END`; R69, log 5). -/
def phaseFor (pc : PhaseClass) (ph : Phase) : Phase :=
  if phaseClass ph = pc then ph
  else if pc = Pc.low then 0
  else if pc = Pc.high then 1
  else 11

/-- A latch for which `expired` is `b` when the tick source shows `now`. -/
def latchFor (b : Bit) (now t0 : Millis) : Millis :=
  if expired now t0 = b then t0 else if b then now - 31 else now

/-- `ms_now` as the MS unit will leave it at the next tick that is no reset tick (R110, R111). -/
def millisNext (s : State) : Millis := if wraps s.msDiv then s.msNow + 1 else s.msNow

/-- The registers and the next input sample under which the FSM unit forms the word `w` at the next tick. -/
def placeFsmWord (w : DecodeWord .fsm) (s : State) : State :=
  { s with
    st := fwSt w
    ph := phaseFor (fwPc w) s.ph
    t0 := latchFor (fwExpired w) (if fwRst w then s.msNow else millisNext s) s.t0
    lines := ⟨1, ivOf (fwRst w) (fwStart w) (fwEcho w)⟩ :: s.lines }

/-- The registers and the next input sample under which the MS unit AND the CNT unit form the two-bit word `w` at the next
tick: the word of one byte names neither unit (log 3), so it is placed for both. -/
def placeUnitWord (w : DecodeWord .ms) (s : State) : State :=
  { s with
    msDiv := dividerFor (mwWrap w) s.msDiv
    run := mwWrap w
    lines := ⟨1, ivOf (mwRst w) false false⟩ :: s.lines }

end Sys2Proof.Machine
end

