-- ==== Sys2Proof/Machine/Tick.lean ====
section
/-! DEFINITION. The composition of one tick (30_encoding.md R66; 20_memory.md R46): each unit forms its decode word, the
decoder selects the operation, `exec` runs it. -/

namespace Sys2Proof.Machine

/-- The MS unit of a tick whose sample is `iv`. -/
def runMsUnit (iv : InputVector) (s : State) : Result := exec (decode .ms (msWord iv s)) s

/-- The CNT unit of a tick whose sample is `iv`. -/
def runCntUnit (iv : InputVector) (s : State) : Result := exec (decode .cnt (cntWord iv s)) s

/-- The FSM unit of a tick whose sample is `iv`. -/
def runFsmUnit (iv : InputVector) (s : State) : Result := exec (decode .fsm (fsmWord iv s)) s

/-- `Step(S, rst, start, echo)` (R66). At a reset tick the one operation `RESET`, which every unit's word then selects,
takes the place of all three (R140); otherwise MS, CNT and FSM run in this order, each on what the one before left. -/
def runTick (iv : InputVector) (s : State) : Result :=
  if ivRst iv then runFsmUnit iv s
  else andThen (runMsUnit iv s) fun s1 => andThen (runCntUnit iv s1) fun s2 => runFsmUnit iv s2

end Sys2Proof.Machine
end

