-- ==== Sys2Proof/Machine/Step.lean ====
section
/-! DEFINITION. One step of the machine is one tick of one microsecond (00_scope.md R7). -/

namespace Sys2Proof.Machine

/-- Sample the inputs once, then `Step` (R7, R42, R66). Exactly one sample each microsecond and no overhead between two, so
the count is exact here; of the source's firmware it is only approximate, a departure that the spec decides (D1) and R9 asks
a modeller to record: claims are about this block and not about the firmware (log 16). -/
def step (s : State) : Host.Outcome State Fault Refusal :=
  runTick s.input s.takeInput

/-- `s` with the registers and the next input sample under which the very next step forms the table word `w` and runs its
operation (log 2; for a word of one byte see log 3). A number that is no word of its format changes nothing. -/
def State.withFetchWord (s : State) (nbits w : Nat) : State :=
  match tableFormat nbits with
  | .fsm => if w < 2 ^ Format.fsm.width then placeFsmWord (BitVec.ofNat 9 w) s else s
  | _ => if w < 2 ^ Format.ms.width then placeUnitWord (BitVec.ofNat 2 w) s else s

end Sys2Proof.Machine
end

