-- ==== Sys2Proof/Machine/Ports.lean ====
section
/-! DEFINITION. The eight output ports (20_memory.md R40) as functions of the registers after the tick (10_state.md R25). -/

namespace Sys2Proof.Machine

/-- The output ports of R40, in the order of R25. -/
structure Outputs where
  trigO : Bit
  busy : Bit
  done : Bit
  validO : Bit
  distO : Dist
  causeO : CauseCode
  stateO : StCode
  countO : Count
deriving DecidableEq, Repr

/-- What the ports show: a pure function of the registers, no input reaches an output within a tick (R25, D24). -/
def State.outputs (s : State) : Outputs where
  trigO := s.trig
  busy := busyIn s.st
  done := doneIn s.st
  validO := s.valid
  distO := s.dist
  causeO := s.cause
  stateO := s.st
  countO := s.cnt

/-- `busy` (R25). -/
def State.busy (s : State) : Bit := busyIn s.st

/-- `done` (R25). -/
def State.done (s : State) : Bit := doneIn s.st

end Sys2Proof.Machine
end

