-- ==== Sys2Proof/Machine/Stimulus.lean ====
section
/-! DEFINITION. The stimulus notation (30_encoding.md R71), the analogue of assembler syntax: the five mnemonics, their
encodings, and the four pseudo-lines with their expansions. -/

namespace Sys2Proof.Machine

/-- The mnemonics of R71, each with the number of ticks it lasts. -/
inductive Mnemonic where
  | quiet (n : Nat)
  | echo (n : Nat)
  | start (n : Nat)
  | startEcho (n : Nat)
  | rst (n : Nat)
deriving DecidableEq, Repr

/-- The encoding of a line: the pair (`n`, `IV`) (R71). -/
def encodeLine : Mnemonic → StimLine
  | .quiet n => ⟨n, 0b000⟩
  | .echo n => ⟨n, 0b001⟩
  | .start n => ⟨n, 0b010⟩
  | .startEcho n => ⟨n, 0b011⟩
  | .rst n => ⟨n, 0b100⟩

/-- The pseudo-lines of R71. -/
inductive PseudoLine where
  | invoke
  | trigWait
  | pulse (g w : Nat)
  | measure (g w : Nat)
deriving DecidableEq, Repr

/-- `QUIET g ; ECHO w ; QUIET 1` (R71). -/
def expandPulse (g w : Nat) : List Mnemonic := [.quiet g, .echo w, .quiet 1]

/-- The expansion of a pseudo-line (R71). With `g` = 0 the line `QUIET 0` of a pulse lasts no tick (log 6). -/
def expandPseudo : PseudoLine → List Mnemonic
  | .invoke => [.start 1]
  | .trigWait => [.quiet 12]
  | .pulse g w => expandPulse g w
  | .measure g w => [.start 1, .quiet 12] ++ expandPulse g w

/-- The stimulus lines of a list of mnemonics. -/
def encodeLines (ms : List Mnemonic) : List StimLine := ms.map encodeLine

/-- How many ticks a list of stimulus lines lasts. -/
def ticksOf (ls : List StimLine) : Nat := (ls.map StimLine.n).sum

end Sys2Proof.Machine
end

