-- ==== Sys2Proof/Safety.lean ====
section
/-! DEFINITION. The terms in which claims about the block are stated: runs of many ticks and the inputs they meet, the
operations of a tick, states that agree in their registers, and the invariants of 10_state.md R27. -/

namespace Sys2Proof.Machine

/-! ## Runs -/

/-- `n` ticks from `s`. -/
def runTicks : Nat → State → Result
  | 0, s => .next s
  | n + 1, s => andThen (step s) (runTicks n)

/-- The input vector sampled at the `j`-th tick from `s` on, counted from 0 (R42). -/
def State.inputAt (s : State) : Nat → InputVector
  | 0 => s.input
  | j + 1 => s.takeInput.inputAt j

/-- `In(rst)` at the `j`-th tick from `s` on. -/
def State.rstAt (s : State) (j : Nat) : Bit := ivRst (s.inputAt j)
/-- `In(start)` at the `j`-th tick from `s` on. -/
def State.startAt (s : State) (j : Nat) : Bit := ivStart (s.inputAt j)
/-- `In(echo)` at the `j`-th tick from `s` on. -/
def State.echoAt (s : State) (j : Nat) : Bit := ivEcho (s.inputAt j)

/-! ## The operations of the next tick -/

/-- The operation the MS unit's word selects at the next tick (R63). -/
def State.msOp (s : State) : Instr := decode .ms (msWord s.input s.takeInput)

/-- The operation the CNT unit's word selects at the next tick (R65). -/
def State.cntOp (s : State) : Instr := decode .cnt (cntWord s.input s.takeInput)

/-- The state the FSM unit receives at the next tick: after the MS and CNT units, or, at a reset tick, at once (R66). -/
def State.atFsm (s : State) : Result :=
  if ivRst s.input then .next s.takeInput
  else andThen (runMsUnit s.input s.takeInput) (runCntUnit s.input)

/-- The operation the FSM unit's word selects at the next tick (R64, R66); none if a unit before it stopped. -/
def State.fsmOp (s : State) : Option Instr :=
  match s.atFsm with
  | .next u => some (decode .fsm (fsmWord s.input u))
  | _ => none

/-- The invocation is accepted at the next tick: `start` is sampled 1 in `IDLE` or `RESOLVED` and there is no reset (R81,
R86, R105). -/
def State.acceptsStart (s : State) : Prop :=
  (s.st = St.idle ∨ s.st = St.resolved) ∧ s.startAt 0 = true ∧ s.rstAt 0 = false

/-! ## Registers -/

/-- `s` and `t` hold the same value in each of the eleven registers of R10. -/
abbrev sameRegisters (s t : State) : Prop :=
  s.st = t.st ∧ s.ph = t.ph ∧ s.trig = t.trig ∧ s.cnt = t.cnt ∧ s.run = t.run ∧ s.t0 = t.t0 ∧
    s.msDiv = t.msDiv ∧ s.msNow = t.msNow ∧ s.dist = t.dist ∧ s.valid = t.valid ∧ s.cause = t.cause

/-- A launch state of R27: the reset state except for the environment, an arbitrary `ms_now` and an arbitrary
`ms_div <= 999` (D12). -/
def State.isLaunch (s : State) : Prop :=
  sameRegisters s { State.reset with msDiv := s.msDiv, msNow := s.msNow } ∧ s.msDiv.toNat ≤ 999

/-- What the MS and CNT units leave for the FSM unit at a tick without reset, as the spec's own words have it: the divider
and the tick source by R63, R110 and R111, the counter by R65, R112 and R113. -/
def State.counted (s : State) : State :=
  { s.takeInput with
    msDiv := if 999 ≤ s.msDiv.toNat then 0 else s.msDiv + 1
    msNow := if 999 ≤ s.msDiv.toNat then s.msNow + 1 else s.msNow
    cnt := if s.run then s.cnt + 1 else s.cnt }

/-- The deadline has expired for the FSM unit of the next tick: `x` of R64, with the `ms_now` of that tick (R114). -/
def State.deadlinePassed (s : State) : Prop := 30 < (s.counted.msNow - s.t0).toNat

/-- `k(m)` of R115: how many ticks after a tick that left `ms_div` = `m` the next `MS.WRAP` is executed. -/
def firstWrap (m : Nat) : Nat := if m = 0 then 1000 else 1000 - m

/-! ## The invariants -/

/-- V1 to V10 of R27. -/
structure State.Invariants (s : State) : Prop where
  /-- V1. -/
  stAssigned : s.st.toNat ≤ 5
  /-- V2, first half. -/
  phAtRest : s.st ≠ St.triggering → s.ph = 0
  /-- V2, second half. -/
  phBound : s.st = St.triggering → s.ph.toNat ≤ 11
  /-- V3. -/
  trigExactly : s.trig = true ↔ s.st = St.triggering ∧ 2 ≤ s.ph.toNat ∧ s.ph.toNat ≤ 11
  /-- V4. -/
  runExactly : s.run = true ↔ s.st = St.timing ∨ s.st = St.waitEchoFall
  /-- V5. -/
  validResult : s.valid = true → s.st = St.resolved ∧ s.cause = Cause.none ∧ s.dist.toNat = 17 * s.cnt.toNat ∧
    118 ≤ s.cnt.toNat ∧ s.cnt.toNat ≤ 23529 ∧ 2006 ≤ s.dist.toNat ∧ s.dist.toNat ≤ 399993
  /-- V6, with its consequence. -/
  zeroUnlessValid : s.valid = false → s.dist = 0
  /-- V6: "Hence valid = 1 exactly when dist != 0". -/
  validExactly : s.valid = true ↔ s.dist ≠ 0
  /-- V7. -/
  causeOnlyResolved : s.cause ≠ Cause.none → s.st = St.resolved ∧ s.valid = false
  /-- V8. -/
  dividerBound : s.msDiv.toNat ≤ 999
  /-- V9, first part. -/
  cntBound : s.cnt.toNat ≤ 31001
  /-- V9, second part. -/
  cntTiming : s.st = St.timing → s.cnt = 0
  /-- V9, third part. -/
  cntFalling : s.st = St.waitEchoFall → 1 ≤ s.cnt.toNat ∧ s.cnt.toNat ≤ 31000
  /-- V10, first half. -/
  notBusyAndDone : ¬ (s.busy = true ∧ s.done = true)
  /-- V10, second half. -/
  trigOnlyBusy : s.trig = true → s.busy = true

/-- What the fall wait keeps beside V1 to V10 and what V9 rests on (R27, R115): the deadline has not expired, and the
counter is tied to the tick source, `cnt - 1 = 1000 * elapsed_ms + ms_div - m'` for a phase `m'` in 0 .. 999. -/
def State.fallWaitInStep (s : State) : Prop :=
  s.st = St.waitEchoFall →
    (elapsedMs s.msNow s.t0).toNat ≤ 30 ∧
    s.cnt.toNat ≤ 1000 * (elapsedMs s.msNow s.t0).toNat + s.msDiv.toNat + 1 ∧
    1000 * (elapsedMs s.msNow s.t0).toNat + s.msDiv.toNat ≤ s.cnt.toNat + 998

/-- The inductive invariant: V1 to V10 and the fall wait's bookkeeping. -/
def State.Inv (s : State) : Prop := s.Invariants ∧ s.fallWaitInStep

end Sys2Proof.Machine
end

