-- ==== Sys2Proof/Certificates/Slice0/Obligations.lean ====
section
/-! DEFINITION. The statements for the provers, each about the machine and every input it can meet. `rstAt j`, `startAt j`
and `echoAt j` are the bits sampled at the `j`-th tick from a state on, so a statement for every state is a statement for
every input sequence. -/

open Sys2Proof Sys2Proof.Machine

/-! ## Each operation: its result, that it completes, and its frame (every field not named is unchanged) -/

/-- R140: `RESET` completes in every state and leaves every register 0; the environment is no register. -/
def Obligations.ResetOperationClearsEveryRegister : Prop :=
  ∀ s : State, exec .reset s = .next
    { st := 0, ph := 0, trig := false, cnt := 0, run := false, t0 := 0, msDiv := 0, msNow := 0, dist := 0,
      valid := false, cause := 0, lines := s.lines, tick := s.tick }

/-- R28: after a reset tick, whatever was before, the eleven registers and the eight outputs are 0; so is `State.reset`. -/
def Obligations.ResetTickLeavesEveryRegisterZero : Prop :=
  sameRegisters State.reset
    { st := 0, ph := 0, trig := false, cnt := 0, run := false, t0 := 0, msDiv := 0, msNow := 0, dist := 0,
      valid := false, cause := 0, lines := [], tick := 0 } ∧
  ∀ s : State, s.rstAt 0 = true →
    ∃ t, step s = .next t ∧ sameRegisters t State.reset ∧
      t.outputs = { trigO := false, busy := false, done := false, validO := false, distO := 0, causeO := 0,
                    stateO := 0, countO := 0 }

/-- R110: `MS.DIV` is the word 00, adds 1 to the divider and does nothing else; at every tick without reset at which the
divider is below 999, in every state of the block, it is the MS unit's operation, and `ms_now` does not change. -/
def Obligations.DividerAdvancesBelowItsTop : Prop :=
  decode .ms 0b00#2 = .msDiv ∧
  (∀ s : State, exec .msDiv s = .next { s with msDiv := s.msDiv + 1 }) ∧
  ∀ s : State, s.rstAt 0 = false → s.msDiv.toNat < 999 →
    s.msOp = .msDiv ∧
    ∃ t, step s = .next t ∧ t.msDiv.toNat = s.msDiv.toNat + 1 ∧ t.msNow = s.msNow

/-- R111: `MS.WRAP` is the word 01; it zeroes the divider and advances `ms_now` modulo 65536, at every tick without reset
at which the divider is 999 or more; the FSM unit of the tick sees the new `ms_now`; no FSM operation writes either; and it
is executed once every 1000 ticks exactly, at the ticks after which the divider is 0. -/
def Obligations.MillisecondPassesEveryThousandTicks : Prop :=
  decode .ms 0b01#2 = .msWrap ∧
  (∀ s : State, exec .msWrap s = .next { s with msDiv := 0, msNow := s.msNow + 1 }) ∧
  (∀ s : State, s.rstAt 0 = false → 999 ≤ s.msDiv.toNat →
    s.msOp = .msWrap ∧
    (∃ u, s.atFsm = .next u ∧ u.msNow = s.msNow + 1) ∧
    ∃ t, step s = .next t ∧ t.msDiv = 0 ∧ t.msNow.toNat = (s.msNow.toNat + 1) % 65536) ∧
  (∀ i : Instr, i.wellFormed .fsm = true → i ≠ .reset → ∀ s t : State, exec i s = .next t →
    t.msDiv = s.msDiv ∧ t.msNow = s.msNow) ∧
  ∀ s : State, s.msDiv = 0 → (∀ j, j < 1000 → s.rstAt j = false) →
    (∀ j, j < 1000 → ∃ u, runTicks j s = .next u ∧ u.msDiv.toNat = j ∧ (u.msOp = .msWrap ↔ j = 999)) ∧
    ∃ t, runTicks 1000 s = .next t ∧ t.msDiv = 0 ∧ t.msNow = s.msNow + 1

/-- R112, R113: `CNT.HOLD` writes nothing; `CNT.INC` adds 1 to the counter modulo 65536 and writes nothing else; which of
the two runs at a tick without reset is the value of `run` before it. -/
def Obligations.CounterHoldsOrCounts : Prop :=
  ∀ s : State,
    exec .cntHold s = .next s ∧
    exec .cntInc s = .next { s with cnt := s.cnt + 1 } ∧
    (s.cnt + 1).toNat = (s.cnt.toNat + 1) % 65536 ∧
    (s.rstAt 0 = false → s.cntOp = if s.run then .cntInc else .cntHold)

/-- R80, R90, R94, R104, R112: the holding and polling operations complete in every state and write no register. -/
def Obligations.HoldAndPollOperationsWriteNothing : Prop :=
  ∀ i : Instr, i = .idleHold ∨ i = .risePoll ∨ i = .fallPoll ∨ i = .resHold ∨ i = .cntHold →
    ∀ s : State, exec i s = .next s

/-- R81, R105: the two starts write the same seven registers with the same values, and no other. -/
def Obligations.StartOperationsBeginACycle : Prop :=
  ∀ i : Instr, i = .idleStart ∨ i = .resStart →
    ∀ s : State, exec i s = .next
      { s with st := 1, ph := 0, trig := false, run := false, dist := 0, valid := false, cause := 0 }

/-- R82, R83, R84: the three trigger operations. -/
def Obligations.TriggerOperationsShapeThePulse : Prop :=
  ∀ s : State,
    exec .trigLow s = .next { s with trig := false, ph := s.ph + 1 } ∧
    exec .trigHigh s = .next { s with trig := true, ph := s.ph + 1 } ∧
    (s.ph.toNat ≤ 10 → (s.ph + 1).toNat = s.ph.toNat + 1) ∧
    exec .trigEnd s = .next { s with trig := false, t0 := s.msNow, ph := 0, st := 2 }

/-- R91, R93: the rising edge clears and starts the counter; the arming tick latches the second deadline. -/
def Obligations.EdgeAndArmBeginTheMeasurement : Prop :=
  ∀ s : State,
    exec .riseEdge s = .next { s with cnt := 0, run := true, st := 3 } ∧
    exec .timingArm s = .next { s with t0 := s.msNow, st := 4 }

/-- R95, R100, R101: `FALL.EDGE` stops the counter, keeps `d` in it, and gives exactly `17 * d` for `d` from 118 to 23529
and the sentinel with cause 3 for every other `d`. -/
def Obligations.FallEdgeConvertsAndFilters : Prop :=
  ∀ s : State,
    if 118 ≤ s.cnt.toNat ∧ s.cnt.toNat ≤ 23529 then
      ∃ t, exec .fallEdge s = .next t ∧ t.dist.toNat = 17 * s.cnt.toNat ∧
        t = { s with run := false, dist := t.dist, valid := true, cause := 0, st := 5 }
    else
      exec .fallEdge s = .next { s with run := false, dist := 0, valid := false, cause := 3, st := 5 }

/-- R123: `resolve_invalid(c)` writes four registers and saves nothing; it is the one way each of the three conditions takes
effect; `done` is 1 and the sentinel is on the outputs as soon as it has; and what a valid outcome writes otherwise differs
from it in the result registers only. -/
def Obligations.ConditionsResolveThroughOneMacro : Prop :=
  (∀ (c : CauseCode) (s : State),
    resolveInvalid c s = { s with dist := 0, valid := false, cause := c, st := 5 } ∧
    (resolveInvalid c s).outputs =
      { s.outputs with distO := 0, validO := false, causeO := c, stateO := 5, busy := false, done := true }) ∧
  ∀ s : State,
    exec .riseTimeout s = .next (resolveInvalid 1 s) ∧
    exec .fallTimeout s = .next (resolveInvalid 2 { s with run := false }) ∧
    (plausible (convert s.cnt) = false → exec .fallEdge s = .next (resolveInvalid 3 { s with run := false })) ∧
    (plausible (convert s.cnt) = true → ∃ t, exec .fallEdge s = .next t ∧ t.st = 5 ∧
      { t with dist := 0, valid := false, cause := 3 } = resolveInvalid 3 { s with run := false })

/-- R106: `BAD.RECOVER` from whatever it finds. -/
def Obligations.RecoveryLeavesAReservedCode : Prop :=
  ∀ s : State, exec .badRecover s = .next
    { s with st := 0, ph := 0, trig := false, run := false, dist := 0, valid := false, cause := 0 }

/-- R26, R51: a register changes only by an operation the write table lists for it; no operation touches the
environment's samples. -/
def Obligations.OnlyListedOperationsWriteEachRegister : Prop :=
  ∀ (i : Instr) (s t : State), exec i s = .next t →
    (t.st ≠ s.st → i ∈ [Instr.reset, .idleStart, .trigEnd, .riseEdge, .riseTimeout, .timingArm, .fallEdge, .fallTimeout,
      .resStart, .badRecover]) ∧
    (t.ph ≠ s.ph ∨ t.trig ≠ s.trig →
      i ∈ [Instr.reset, .idleStart, .trigLow, .trigHigh, .trigEnd, .resStart, .badRecover]) ∧
    (t.trig = true → s.trig = false → i = .trigHigh) ∧
    (t.cnt ≠ s.cnt → i ∈ [Instr.reset, .cntInc, .riseEdge]) ∧
    (t.run ≠ s.run → i ∈ [Instr.reset, .idleStart, .riseEdge, .fallEdge, .fallTimeout, .resStart, .badRecover]) ∧
    (t.t0 ≠ s.t0 → i ∈ [Instr.reset, .trigEnd, .timingArm]) ∧
    (t.msDiv ≠ s.msDiv → i ∈ [Instr.reset, .msDiv, .msWrap]) ∧
    (t.msNow ≠ s.msNow → i ∈ [Instr.reset, .msWrap]) ∧
    (t.dist ≠ s.dist ∨ t.valid ≠ s.valid ∨ t.cause ≠ s.cause →
      i ∈ [Instr.reset, .idleStart, .riseTimeout, .fallEdge, .fallTimeout, .resStart, .badRecover]) ∧
    t.lines = s.lines ∧ t.tick = s.tick

/-! ## One tick -/

/-- R66: one step is one `Step`. At a reset tick it is `RESET` alone; otherwise it is the MS unit's decoded operation, the
CNT unit's on what that left, and the FSM unit's decoded operation on what both left, with `x` and `pc` computed there; and
it always answers a next state. -/
def Obligations.StepRunsTheDecodedOperations : Prop :=
  ∀ s : State,
    (∃ t, step s = .next t) ∧
    (s.rstAt 0 = true → decode .fsm (fsmWord s.input s.takeInput) = .reset ∧ step s = exec .reset s.takeInput) ∧
    (s.rstAt 0 = false → ∃ s1 s2 : State,
      exec (decode .ms (msWord s.input s.takeInput)) s.takeInput = .next s1 ∧
      decode .ms (msWord s.input s.takeInput) = (if 999 ≤ s.msDiv.toNat then .msWrap else .msDiv) ∧
      exec (decode .cnt (cntWord s.input s1)) s1 = .next s2 ∧
      decode .cnt (cntWord s.input s1) = (if s1.run then .cntInc else .cntHold) ∧
      s1.run = s.run ∧ s2.st = s.st ∧ s2.ph = s.ph ∧ s2.t0 = s.t0 ∧
      step s = exec (decode .fsm (fsmWord s.input s2)) s2 ∧
      fsmWord s.input s2 = fwOf false s2.st (s.startAt 0) (s.echoAt 0) (decide (30 < (s2.msNow - s2.t0).toNat))
        (if s2.ph.toNat < 1 then 0 else if s2.ph.toNat ≤ 10 then 1 else 2))

/-- R68: the whole control flow of the block, row by row: the operation and the next state code; reset gives `IDLE` from
everywhere; and what follows from the rows: `IDLE` is not entered again from a state of a cycle without a reset. -/
def Obligations.NextStateTable : Prop :=
  ∀ s : State, ∃ t, step s = .next t ∧
    (s.rstAt 0 = true → t.st = 0) ∧
    (s.rstAt 0 = false →
      (s.st = 0 → s.startAt 0 = false → s.fsmOp = some .idleHold ∧ t.st = 0) ∧
      (s.st = 0 → s.startAt 0 = true → s.fsmOp = some .idleStart ∧ t.st = 1) ∧
      (s.st = 1 → s.ph.toNat ≤ 10 → s.fsmOp = some (if s.ph.toNat = 0 then .trigLow else .trigHigh) ∧ t.st = 1) ∧
      (s.st = 1 → 11 ≤ s.ph.toNat → s.fsmOp = some .trigEnd ∧ t.st = 2) ∧
      (s.st = 2 → s.echoAt 0 = true → s.fsmOp = some .riseEdge ∧ t.st = 3) ∧
      (s.st = 2 → s.echoAt 0 = false → s.deadlinePassed → s.fsmOp = some .riseTimeout ∧ t.st = 5) ∧
      (s.st = 2 → s.echoAt 0 = false → ¬ s.deadlinePassed → s.fsmOp = some .risePoll ∧ t.st = 2) ∧
      (s.st = 3 → s.fsmOp = some .timingArm ∧ t.st = 4) ∧
      (s.st = 4 → s.echoAt 0 = false → s.fsmOp = some .fallEdge ∧ t.st = 5) ∧
      (s.st = 4 → s.echoAt 0 = true → s.deadlinePassed → s.fsmOp = some .fallTimeout ∧ t.st = 5) ∧
      (s.st = 4 → s.echoAt 0 = true → ¬ s.deadlinePassed → s.fsmOp = some .fallPoll ∧ t.st = 4) ∧
      (s.st = 5 → s.startAt 0 = false → s.fsmOp = some .resHold ∧ t.st = 5) ∧
      (s.st = 5 → s.startAt 0 = true → s.fsmOp = some .resStart ∧ t.st = 1) ∧
      (s.st = 6 ∨ s.st = 7 → s.fsmOp = some .badRecover ∧ t.st = 0) ∧
      (1 ≤ s.st.toNat → s.st.toNat ≤ 5 → 1 ≤ t.st.toNat ∧ t.st.toNat ≤ 5))

/-- R80, R81: the whole next state of a tick in `IDLE`, whatever `echo` is. -/
def Obligations.TickInIdle : Prop :=
  ∀ s : State, s.st = 0 → s.rstAt 0 = false →
    step s = .next (if s.startAt 0 then
      { s.counted with st := 1, ph := 0, trig := false, run := false, dist := 0, valid := false, cause := 0 }
    else s.counted)

/-- R82, R83, R84, R69: the whole next state of a tick in `TRIGGERING`, whatever `start` and `echo` are; the unreachable
phases 12 to 15 end the pulse like 11. -/
def Obligations.TickInTriggering : Prop :=
  ∀ s : State, s.st = 1 → s.rstAt 0 = false →
    (s.ph.toNat = 0 → step s = .next { s.counted with trig := false, ph := 1 }) ∧
    (1 ≤ s.ph.toNat → s.ph.toNat ≤ 10 → step s = .next { s.counted with trig := true, ph := s.ph + 1 }) ∧
    (11 ≤ s.ph.toNat → step s = .next { s.counted with trig := false, ph := 0, t0 := s.counted.msNow, st := 2 })

/-- R90, R91, R92: the whole next state of a tick in `WAIT_ECHO_RISE`. -/
def Obligations.TickInRiseWait : Prop :=
  ∀ s : State, s.st = 2 → s.rstAt 0 = false →
    (s.echoAt 0 = true → step s = .next { s.counted with cnt := 0, run := true, st := 3 }) ∧
    (s.echoAt 0 = false → s.deadlinePassed →
      step s = .next { s.counted with dist := 0, valid := false, cause := 1, st := 5 }) ∧
    (s.echoAt 0 = false → ¬ s.deadlinePassed → step s = .next s.counted)

/-- R93: the whole next state of the one tick of `TIMING`, whatever `start` and `echo` are. -/
def Obligations.TickInTiming : Prop :=
  ∀ s : State, s.st = 3 → s.rstAt 0 = false →
    step s = .next { s.counted with t0 := s.counted.msNow, st := 4 }

/-- R94, R95, R96: the whole next state of a tick in `WAIT_ECHO_FALL`; `d` is the count after this tick's increment. -/
def Obligations.TickInFallWait : Prop :=
  ∀ s : State, s.st = 4 → s.rstAt 0 = false →
    (s.echoAt 0 = false →
      step s = .next (if 118 ≤ s.counted.cnt.toNat ∧ s.counted.cnt.toNat ≤ 23529 then
        { s.counted with run := false, dist := BitVec.ofNat 19 (17 * s.counted.cnt.toNat), valid := true, cause := 0,
                         st := 5 }
      else { s.counted with run := false, dist := 0, valid := false, cause := 3, st := 5 })) ∧
    (s.echoAt 0 = true → s.deadlinePassed →
      step s = .next { s.counted with run := false, dist := 0, valid := false, cause := 2, st := 5 }) ∧
    (s.echoAt 0 = true → ¬ s.deadlinePassed → step s = .next s.counted)

/-- R104, R105, R146: the whole next state of a tick in `RESOLVED`, whatever `echo` is: the result is held without a start,
and a start sampled at any tick there, the first one too, clears it and begins a cycle; `cnt` is not cleared. -/
def Obligations.TickInResolved : Prop :=
  ∀ s : State, s.st = 5 → s.rstAt 0 = false →
    step s = .next (if s.startAt 0 then
      { s.counted with st := 1, ph := 0, trig := false, run := false, dist := 0, valid := false, cause := 0 }
    else s.counted)

/-- R69, R106: the whole next state of a tick in a reserved state code, whatever `start` and `echo` are. -/
def Obligations.TickInReservedCode : Prop :=
  ∀ s : State, s.st = 6 ∨ s.st = 7 → s.rstAt 0 = false →
    step s = .next
      { s.counted with st := 0, ph := 0, trig := false, run := false, dist := 0, valid := false, cause := 0 }

/-- R125: the order in which the events of one tick are honoured, stated of the operation the FSM unit executes; each
condition ends its cycle, in `RESOLVED` none can be raised, and `start` is looked at only where the others are ignored. -/
def Obligations.PriorityOfOneTick : Prop :=
  ∀ s : State,
    (s.rstAt 0 = true → s.fsmOp = some .reset ∧ ∃ t, step s = .next t ∧ sameRegisters t State.reset) ∧
    (s.rstAt 0 = false →
      (s.st = 2 → s.echoAt 0 = true → s.fsmOp = some .riseEdge) ∧
      (s.st = 4 → s.echoAt 0 = false → s.fsmOp = some .fallEdge) ∧
      (s.st = 2 → s.echoAt 0 = false → s.deadlinePassed → s.fsmOp = some .riseTimeout) ∧
      (s.st = 4 → s.echoAt 0 = true → s.deadlinePassed → s.fsmOp = some .fallTimeout) ∧
      (s.st = 2 → s.echoAt 0 = false → ¬ s.deadlinePassed → s.fsmOp = some .risePoll) ∧
      (s.st = 4 → s.echoAt 0 = true → ¬ s.deadlinePassed → s.fsmOp = some .fallPoll) ∧
      (s.st = 0 → s.fsmOp = some (if s.startAt 0 then .idleStart else .idleHold)) ∧
      (s.st = 5 → s.fsmOp = some (if s.startAt 0 then .resStart else .resHold))) ∧
    (∀ i : Instr, i = .riseTimeout ∨ i = .fallTimeout ∨ i = .fallEdge → ∃ t, exec i s = .next t ∧ t.st = 5)

/-- R25: the eight outputs as functions of the registers; `busy` and `done` are both 0 in `IDLE` and in the reserved codes
and never both 1. -/
def Obligations.OutputsAreFunctionsOfTheRegisters : Prop :=
  ∀ s : State,
    s.outputs.trigO = s.trig ∧ s.outputs.validO = s.valid ∧ s.outputs.distO = s.dist ∧
    s.outputs.causeO = s.cause ∧ s.outputs.stateO = s.st ∧ s.outputs.countO = s.cnt ∧
    (s.outputs.busy = true ↔ 1 ≤ s.st.toNat ∧ s.st.toNat ≤ 4) ∧
    (s.outputs.done = true ↔ s.st.toNat = 5) ∧
    ¬ (s.outputs.busy = true ∧ s.outputs.done = true) ∧
    (s.st = 0 ∨ s.st = 6 ∨ s.st = 7 → s.outputs.busy = false ∧ s.outputs.done = false)

/-! ## Decode words -/

/-- R63: how `MW` is formed and what it selects; with `rst` = 1 there is no operation but `RESET`. -/
def Obligations.MsWordSelectsTheDividerOperation : Prop :=
  (∀ (iv : InputVector) (s : State),
    (msWord iv s).getLsbD 1 = ivRst iv ∧ ((msWord iv s).getLsbD 0 = true ↔ 999 ≤ s.msDiv.toNat)) ∧
  decode .ms 0b00#2 = .msDiv ∧ decode .ms 0b01#2 = .msWrap ∧
  decode .ms 0b10#2 = .reset ∧ decode .ms 0b11#2 = .reset

/-- R65: how `CW` is formed and what it selects; with `rst` = 1 there is no operation but `RESET`. -/
def Obligations.CntWordSelectsTheCounterOperation : Prop :=
  (∀ (iv : InputVector) (s : State),
    (cntWord iv s).getLsbD 1 = ivRst iv ∧ (cntWord iv s).getLsbD 0 = s.run) ∧
  decode .cnt 0b00#2 = .cntHold ∧ decode .cnt 0b01#2 = .cntInc ∧
  decode .cnt 0b10#2 = .reset ∧ decode .cnt 0b11#2 = .reset

/-- R64: where each field of `FW` stands, how it is computed, that the classifier never produces 3, that the word is formed
with `st` and `ph` from before the tick and `ms_now` from after the MS unit, and that the table's
patterns select: a word decodes to an operation exactly when it matches that operation's row, so the rows are disjoint and
cover all 512 words. -/
def Obligations.FsmWordSelectsByItsPattern : Prop :=
  (∀ (iv : InputVector) (s : State),
    (fsmWord iv s).getLsbD 8 = ivRst iv ∧ (fsmWord iv s).extractLsb' 5 3 = s.st ∧
    (fsmWord iv s).getLsbD 4 = ivStart iv ∧ (fsmWord iv s).getLsbD 3 = ivEcho iv ∧
    ((fsmWord iv s).getLsbD 2 = true ↔ 30 < (s.msNow - s.t0).toNat) ∧
    (fsmWord iv s).extractLsb' 0 2 = phaseClass s.ph ∧
    (s.ph.toNat < 1 → phaseClass s.ph = 0) ∧
    (1 ≤ s.ph.toNat → s.ph.toNat ≤ 10 → phaseClass s.ph = 1) ∧
    (11 ≤ s.ph.toNat → phaseClass s.ph = 2) ∧
    phaseClass s.ph ≠ 3) ∧
  (∀ s : State, s.rstAt 0 = false → ∃ u, s.atFsm = .next u ∧ u.st = s.st ∧ u.ph = s.ph ∧ u.t0 = s.t0 ∧
    u.msNow = (if 999 ≤ s.msDiv.toNat then s.msNow + 1 else s.msNow) ∧
    s.fsmOp = some (decode .fsm (fsmWord s.input u))) ∧
  ∀ (w : DecodeWord .fsm) (i : Instr), decode .fsm w = i ↔ matchesPattern .fsm i w = true

/-- Decode and encode agree, in all three formats: every word of a well-formed operation, whatever its bits that do not
matter, decodes to it; every word decodes to a well-formed operation and is that operation's word again; and an ill-formed
operation has none. -/
def Obligations.DecodeAndEncodeAgree : Prop :=
  (∀ (f : Format) (i : Instr) (fill : DecodeWord f), i.wellFormed f = true →
    ∃ w, encode f i fill = some w ∧ decode f w = i) ∧
  (∀ (f : Format) (w : DecodeWord f),
    (decode f w).wellFormed f = true ∧ encode f (decode f w) w = some w) ∧
  ∀ (f : Format) (i : Instr) (fill : DecodeWord f), i.wellFormed f = false → encode f i fill = none

/-- Words written out from the spec's patterns and vectors decode to their operations. -/
def Obligations.WrittenWordsDecode : Prop :=
  decode .fsm 0b1_100_1_1_0_00#9 = .reset ∧ decode .fsm 0b0_000_1_0_0_00#9 = .idleStart ∧
  decode .fsm 0b0_001_0_1_0_10#9 = .trigEnd ∧ decode .fsm 0b0_010_0_1_1_00#9 = .riseEdge ∧
  decode .fsm 0b0_100_0_0_1_00#9 = .fallEdge ∧ decode .fsm 0b0_101_1_1_0_00#9 = .resStart ∧
  decode .fsm 0b0_111_1_0_0_01#9 = .badRecover ∧ decode .ms 0b01#2 = .msWrap ∧ decode .cnt 0b01#2 = .cntInc

/-- The model's reading of a bare table word (log 3, log 4: the model's choice for words of one byte): two bytes are a word
of the FSM unit, one byte one of the MS unit, and a number with a bit above the format's width is rejected by name. -/
def Obligations.TableWordsAreReadOrRejected : Prop :=
  (∀ w : Nat, w < 512 → decodeTableWord 16 w = some (decode .fsm (BitVec.ofNat 9 w))) ∧
  (∀ w : Nat, w < 4 → decodeTableWord 8 w = some (decode .ms (BitVec.ofNat 2 w))) ∧
  (∀ w : Nat, 512 ≤ w → decodeTableWord 16 w = none ∧ decodeNat .fsm w = .error (.bitsAboveWidth .fsm)) ∧
  (∀ w : Nat, 4 ≤ w → decodeTableWord 8 w = none ∧ decodeNat .ms w = .error (.bitsAboveWidth .ms))

/-- The model's arrangement of registers and inputs for a given word (log 2, log 3: the model's choice): from every state
the very next tick forms the word and executes the operation it decodes to; a phase class of 3, which the classifier never
produces, is met by another class with the same operation. -/
def Obligations.PlacedWordIsFormedAndExecuted : Prop :=
  (∀ (s : State) (w : Nat), w < 512 →
    (s.withFetchWord 16 w).fsmOp = some (decode .fsm (BitVec.ofNat 9 w)) ∧
    (w % 4 ≠ 3 → ∃ u, (s.withFetchWord 16 w).atFsm = .next u ∧
      fsmWord (s.withFetchWord 16 w).input u = BitVec.ofNat 9 w)) ∧
  (∀ (s : State) (w : Nat), w < 4 →
    (s.withFetchWord 8 w).msOp = decode .ms (BitVec.ofNat 2 w) ∧
    (s.withFetchWord 8 w).cntOp = decode .cnt (BitVec.ofNat 2 w))

/-! ## Arithmetic -/

/-- R100: `convert` is exactly `17 * d`, as a product, as a shift and a sum, never overflowing, strictly increasing. -/
def Obligations.ConversionIsExact : Prop :=
  (∀ d : Count, (convert d).toNat = 17 * d.toNat ∧ convert d = (d.setWidth 21 <<< 4) + d.setWidth 21 ∧
    (convert d).toNat ≤ 1114095 ∧ ((convert d).toNat : ℚ) / 1000 = d.toNat * (17 / 1000)) ∧
  (∀ d e : Count, d.toNat < e.toNat → (convert d).toNat < (convert e).toNat) ∧
  convert 0 = 0 ∧ (convert 1000).toNat = 17000 ∧ (convert 50).toNat = 850 ∧ (convert 118).toNat = 2006 ∧
  (convert 23529).toNat = 399993

/-- R101: the filter, both bounds plausible, in terms of the raw distance, of centimetres and of `d`; a plausible value fits
the 19 bits of `dist`; an implausible one makes `FALL.EDGE` raise the condition, and `valid` is the verdict; the rows of the
table. -/
def Obligations.PlausibleExactlyInRange : Prop :=
  (∀ raw : RawDist, (plausible raw = true ↔ 2000 ≤ raw.toNat ∧ raw.toNat ≤ 400000) ∧
    (plausible raw = true ↔ ¬ ((raw.toNat : ℚ) / 1000 < 2 ∨ (400 : ℚ) < (raw.toNat : ℚ) / 1000)) ∧
    (plausible raw = true → (raw.setWidth 19).toNat = raw.toNat)) ∧
  (∀ s : State, ∃ t, exec .fallEdge s = .next t ∧ t.valid = plausible (convert s.cnt) ∧
    (plausible (convert s.cnt) = false → t = resolveInvalid 3 { s with run := false })) ∧
  plausible 850 = false ∧ plausible 17000 = true ∧
  plausible 2000 = true ∧ plausible 400000 = true ∧ plausible 1999 = false ∧ plausible 400001 = false ∧
  (∀ d : Count, plausible (convert d) = true ↔ 118 ≤ d.toNat ∧ d.toNat ≤ 23529) ∧
  (∀ d : Count, (convert d).toNat ≠ 2000 ∧ (convert d).toNat ≠ 400000) ∧
  (∀ d ∈ [(0 : Count), 2, 50, 117, 23530, 31001, 65535], plausible (convert d) = false) ∧
  (∀ d ∈ [(118 : Count), 1000, 23529], plausible (convert d) = true)

/-- R102: any number within the relative error of two binary64 roundings of `d * 0.017` gets the same verdict from the
source's comparison as `d` gets from the block's filter, and lies within 10^-12 of the block's distance. The error bound is
a premise here (R102, G1): nothing of floating point is assumed. -/
def Obligations.IntegerFilterAgreesWithFloat : Prop :=
  ∀ (d : Count) (p : ℚ), |p - 17 * d.toNat / 1000| ≤ 17 * d.toNat / 1000 * (23 / 10 ^ 17) →
    (plausible (convert d) = false ↔ p < 2 ∨ 400 < p) ∧ |p - (convert d).toNat / 1000| < 1 / 10 ^ 12

/-- R114: the deadline arithmetic. The difference wraps; the comparison with 30 is strict; and where the wrapped sum of the
latch and a number of milliseconds is reached, exactly that number is seen. -/
def Obligations.DeadlineIsStrictAndWrapSafe : Prop :=
  (∀ now t0 : Millis, (elapsedMs now t0).toNat = (now.toNat + 65536 - t0.toNat) % 65536 ∧
    (expired now t0 = true ↔ 30 < (elapsedMs now t0).toNat)) ∧
  (∀ (t0 : Millis) (n : Nat), n < 65536 → (elapsedMs (t0 + BitVec.ofNat 16 n) t0).toNat = n ∧
    (expired (t0 + BitVec.ofNat 16 n) t0 = true ↔ 31 ≤ n)) ∧
  (expired 37 7 = false ∧ expired 38 7 = true ∧ expired 14 65520 = false ∧ expired 15 65520 = true ∧
    expired 0 65535 = false ∧ expired 99 100 = true) ∧
  ∀ (r a e : Bit) (c : StCode) (p : PhaseClass), c ≠ 2 → c ≠ 4 → selectFsm r c a e true p = selectFsm r c a e false p

/-! ## The time base over many ticks -/

/-- R17, R18, D12: without a reset the divider and the tick source together count ticks, modulo 65536 milliseconds, whatever
the state machine does. -/
def Obligations.TickSourceCountsEveryTick : Prop :=
  ∀ (s t : State) (n : Nat), s.msDiv.toNat ≤ 999 → (∀ j, j < n → s.rstAt j = false) → runTicks n s = .next t →
    t.msDiv.toNat ≤ 999 ∧
    1000 * t.msNow.toNat + t.msDiv.toNat = (1000 * s.msNow.toNat + s.msDiv.toNat + n) % 65536000

/-- R115: counted from a tick that latched the deadline and left the divider at `m`: at which ticks `MS.WRAP` is executed,
what the FSM unit of each later tick sees as elapsed, and that the deadline is first expired `k(m) + 30000` ticks after it,
between 30001 and 31000; and that `m` is the number of ticks since the last reset, modulo 1000. The tick `t_L + j + 1` is
the one that starts from the state after `j` ticks. -/
def Obligations.DeadlineExpiresAtItsTick : Prop :=
  (∀ s : State, s.t0 = s.msNow → s.msDiv.toNat ≤ 999 →
    30001 ≤ firstWrap s.msDiv.toNat + 30000 ∧ firstWrap s.msDiv.toNat + 30000 ≤ 31000 ∧
    ∀ (j : Nat) (u : State), (∀ i, i ≤ j → s.rstAt i = false) → runTicks j s = .next u →
      (u.msOp = .msWrap ↔ firstWrap s.msDiv.toNat ≤ j + 1 ∧ (j + 1 - firstWrap s.msDiv.toNat) % 1000 = 0) ∧
      (elapsedMs u.counted.msNow s.t0).toNat =
        (if j + 1 < firstWrap s.msDiv.toNat then 0 else 1 + (j + 1 - firstWrap s.msDiv.toNat) / 1000) % 65536 ∧
      (j + 1 < firstWrap s.msDiv.toNat + 30000 → expired u.counted.msNow s.t0 = false) ∧
      (j + 1 = firstWrap s.msDiv.toNat + 30000 → expired u.counted.msNow s.t0 = true)) ∧
  ∀ (r t : State) (n : Nat), r.rstAt 0 = true → (∀ i, 1 ≤ i → i ≤ n → r.rstAt i = false) →
    runTicks (n + 1) r = .next t → t.msDiv.toNat = n % 1000

/-! ## Invariants -/

/-- Every launch state, the reset state among them, and every state after a reset tick meets the invariant. -/
def Obligations.LaunchStatesMeetTheInvariant : Prop :=
  State.reset.isLaunch ∧ (∀ s : State, s.isLaunch → s.Inv) ∧
  ∀ s t : State, s.rstAt 0 = true → step s = .next t → t.Inv

/-- Every step keeps the invariant: V1 to V10 of R27, with the fall wait's bookkeeping that V9 rests on (the strengthening
is an inference from R115, so the statement is the model's own form of R27). -/
def Obligations.StepKeepsTheInvariant : Prop :=
  ∀ s t : State, s.Inv → step s = .next t → t.Inv

/-- V1 to V10 of R27 hold at every tick of every run that begins with a reset tick or from a launch state with an arbitrary
`ms_now` and `ms_div` up to 999; and wherever they hold, at `FALL.TIMEOUT` the count is between 30002 and 31001. The fall
wait's bookkeeping beside them is an inference from R115, so the statement is the model's own form of R27. -/
def Obligations.InvariantsHoldOnEveryRun : Prop :=
  (∀ (s t : State) (n : Nat), runTicks n s = .next t → s.isLaunch ∨ (s.rstAt 0 = true ∧ 1 ≤ n) →
    t.Invariants ∧ t.fallWaitInStep) ∧
  ∀ t : State, t.Inv → t.fsmOp = some .fallTimeout →
    ∃ u, step t = .next u ∧ 30002 ≤ u.cnt.toNat ∧ u.cnt.toNat ≤ 31001

/-- R20, R27, R145: on the outputs of every state that meets the invariant, valid is distance nonzero, and then the cycle is
done and the distance is a multiple of 17 in the plausible range, so no valid result is 0. -/
def Obligations.ValidExactlyWhenDistanceNonzero : Prop :=
  ∀ s : State, s.Inv →
    (s.outputs.validO = true ↔ s.outputs.distO ≠ 0) ∧
    (s.outputs.validO = true → s.outputs.done = true ∧ 2006 ≤ s.outputs.distO.toNat ∧
      s.outputs.distO.toNat ≤ 399993 ∧ 17 ∣ s.outputs.distO.toNat)

/-- R62, R103: the results a cycle can end with: one for each plausible count, and the three sentinels. -/
def Obligations.CyclesEndInFourKindsOfResult : Prop :=
  ∀ s t : State, s.Inv → s.busy = true → step s = .next t → t.done = true →
    (t.valid = true ∧ t.cause = 0 ∧ t.dist.toNat = 17 * t.cnt.toNat ∧ 118 ≤ t.cnt.toNat ∧ t.cnt.toNat ≤ 23529) ∨
    (t.valid = false ∧ t.dist = 0 ∧ (t.cause = 1 ∨ t.cause = 2 ∨ t.cause = 3))

/-- R143: from an accepted start until the cycle resolves the result registers are clear, so no stale result can be read. -/
def Obligations.ResultIsClearWhileBusy : Prop :=
  ∀ s : State, s.Inv → s.busy = true →
    s.outputs.distO = 0 ∧ s.outputs.validO = false ∧ s.outputs.causeO = 0 ∧ s.outputs.done = false

/-- R47: while the block is done and neither start nor reset is sampled, the result and the count do not change, for any
number of ticks and whatever `echo` does; the tick that accepts a start clears the result. The invariant is asked for
because the counter rests only where V4 holds. -/
def Obligations.ResolvedResultIsStable : Prop :=
  (∀ (s t : State) (n : Nat), s.Inv → s.done = true → (∀ j, j < n → s.startAt j = false ∧ s.rstAt j = false) →
    runTicks n s = .next t →
    t.done = true ∧ t.outputs.distO = s.outputs.distO ∧ t.outputs.validO = s.outputs.validO ∧
      t.outputs.causeO = s.outputs.causeO ∧ t.outputs.countO = s.outputs.countO) ∧
  ∀ s t : State, s.done = true → s.acceptsStart → step s = .next t →
    t.done = false ∧ t.dist = 0 ∧ t.valid = false ∧ t.cause = 0

/-! ## What an input cannot influence -/

/-- R86: while the block is busy the sample of `start` changes no register: two ticks that differ in nothing else leave the
same registers. A start sampled in `RESOLVED` begins a cycle there. -/
def Obligations.StartIsIgnoredWhileBusy : Prop :=
  (∀ s t : State, sameRegisters s t → s.busy = true → s.rstAt 0 = t.rstAt 0 → s.echoAt 0 = t.echoAt 0 →
    ∃ s' t', step s = .next s' ∧ step t = .next t' ∧ sameRegisters s' t') ∧
  ∀ s : State, s.acceptsStart → ∃ t, step s = .next t ∧ t.st = 1

/-- R87: outside the two waits the sample of `echo` changes no register; in the rise wait a high sample is the rising edge,
wherever the line rose. -/
def Obligations.EchoIsIgnoredOutsideTheWaits : Prop :=
  (∀ s t : State, sameRegisters s t → s.st = 0 ∨ s.st = 1 ∨ s.st = 3 ∨ s.st = 5 →
    s.rstAt 0 = t.rstAt 0 → s.startAt 0 = t.startAt 0 →
    ∃ s' t', step s = .next s' ∧ step t = .next t' ∧ sameRegisters s' t') ∧
  ∀ s : State, s.st = 2 → s.rstAt 0 = false → s.echoAt 0 = true → s.fsmOp = some .riseEdge

/-! ## Whole cycles -/

/-- R85: the trigger timeline. From an accepted start at tick 0, with no reset, whatever `start` and `echo` do: the operation
of each of the ticks 0 to 12 and what `ph`, `trig_o` and `st` are after it; and after that `trig_o` stays low until the
second tick after another start is accepted. -/
def Obligations.TriggerTimeline : Prop :=
  ∀ s : State, s.acceptsStart → (∀ j, j ≤ 12 → s.rstAt j = false) →
    (∀ j, j ≤ 12 → ∃ u t, runTicks j s = .next u ∧ runTicks (j + 1) s = .next t ∧
      u.fsmOp = some (if j = 0 then (if s.st = 0 then .idleStart else .resStart) else if j = 1 then .trigLow
        else if j ≤ 11 then .trigHigh else .trigEnd) ∧
      t.ph.toNat = (if j ≤ 11 then j else 0) ∧
      t.outputs.trigO = decide (2 ≤ j ∧ j ≤ 11) ∧
      t.st = (if j ≤ 11 then 1 else 2)) ∧
    ∀ (n : Nat) (t : State), 13 ≤ n → runTicks n s = .next t →
      (∀ (j : Nat) (u : State), 13 ≤ j → j + 2 < n → runTicks j s = .next u → ¬ u.acceptsStart) →
      t.outputs.trigO = false

/-- R98: how long the two waits last. With `m` the divider after the latch tick and `k = k(m)`, a rise wait with `echo` low
polls `k + 29999` times and times out at the `k + 30000`-th tick, and a rising edge at any tick up to that one is taken; a
fall wait with `echo` high does the same with its own operations, the count at its timeout is `k + 30001`, and a falling
edge at any tick up to that one is taken. -/
def Obligations.WaitsLastExactlyToTheirDeadline : Prop :=
  (∀ m : Nat, m ≤ 999 → firstWrap m = (if m = 0 then 1000 else 1000 - m) ∧ 1 ≤ firstWrap m ∧ firstWrap m ≤ 1000) ∧
  (∀ s : State, s.st = 2 → s.t0 = s.msNow → s.msDiv.toNat ≤ 999 → s.run = false →
    ((∀ j, j < firstWrap s.msDiv.toNat + 30000 → s.rstAt j = false ∧ s.echoAt j = false) →
      (∀ j, j < firstWrap s.msDiv.toNat + 29999 → ∃ u, runTicks j s = .next u ∧ u.fsmOp = some .risePoll) ∧
      (∃ u, runTicks (firstWrap s.msDiv.toNat + 29999) s = .next u ∧ u.fsmOp = some .riseTimeout) ∧
      ∃ t, runTicks (firstWrap s.msDiv.toNat + 30000) s = .next t ∧ t.st = 5 ∧ t.dist = 0 ∧ t.valid = false ∧
        t.cause = 1 ∧ t.cnt = s.cnt) ∧
    ∀ j, j < firstWrap s.msDiv.toNat + 30000 → (∀ i, i ≤ j → s.rstAt i = false) →
      (∀ i, i < j → s.echoAt i = false) → s.echoAt j = true →
      ∃ u t, runTicks j s = .next u ∧ u.fsmOp = some .riseEdge ∧ runTicks (j + 1) s = .next t ∧ t.st = 3 ∧
        t.cnt = 0 ∧ t.run = true) ∧
  (∀ s : State, s.st = 4 → s.t0 = s.msNow → s.msDiv.toNat ≤ 999 → s.run = true → s.cnt = 1 →
    ((∀ j, j < firstWrap s.msDiv.toNat + 30000 → s.rstAt j = false ∧ s.echoAt j = true) →
      (∀ j, j < firstWrap s.msDiv.toNat + 29999 → ∃ u, runTicks j s = .next u ∧ u.fsmOp = some .fallPoll) ∧
      (∃ u, runTicks (firstWrap s.msDiv.toNat + 29999) s = .next u ∧ u.fsmOp = some .fallTimeout) ∧
      ∃ t, runTicks (firstWrap s.msDiv.toNat + 30000) s = .next t ∧ t.st = 5 ∧ t.dist = 0 ∧ t.valid = false ∧
        t.cause = 2 ∧ t.run = false ∧ t.cnt.toNat = firstWrap s.msDiv.toNat + 30001) ∧
    ∀ j, j < firstWrap s.msDiv.toNat + 30000 → (∀ i, i ≤ j → s.rstAt i = false) →
      (∀ i, i < j → s.echoAt i = true) → s.echoAt j = false →
      ∃ u t, runTicks j s = .next u ∧ u.fsmOp = some .fallEdge ∧ runTicks (j + 1) s = .next t ∧ t.st = 5 ∧
        t.run = false ∧ t.cnt.toNat = j + 2)

/-- R97: what `d` is. In the rise wait, with the rising edge at tick 0 and `f` the first tick from 2 on at which `echo` is
sampled low (the sample at tick 1 is not looked at, so a pulse of `w >= 2` high samples has `f = w` and a pulse of one has
`f >= 2`), and the second deadline not expired before `f`: `FALL.EDGE` is executed at tick `f` and reads `d = f`, and the
result is `17 * f` or the sentinel. -/
def Obligations.PulseWidthIsTheTickCount : Prop :=
  ∀ (s u : State) (f : Nat), s.st = 2 → s.echoAt 0 = true → (∀ j, j ≤ f → s.rstAt j = false) →
    2 ≤ f → (∀ j, 2 ≤ j → j < f → s.echoAt j = true) → s.echoAt f = false →
    runTicks 2 s = .next u → f ≤ firstWrap u.msDiv.toNat + 30001 →
    ∃ v t, runTicks f s = .next v ∧ v.fsmOp = some .fallEdge ∧ runTicks (f + 1) s = .next t ∧
      t.st = 5 ∧ t.run = false ∧ t.cnt.toNat = f ∧
      (if 118 ≤ f ∧ f ≤ 23529 then t.dist.toNat = 17 * f ∧ t.valid = true ∧ t.cause = 0
       else t.dist = 0 ∧ t.valid = false ∧ t.cause = 3)

/-- R49, R150, R151: whatever the three inputs do, a cycle whose start is accepted at tick 0 is busy until a tick `n`, at
most 62012 ticks later, that ends it: the first tick at which `rst` is sampled 1, or, if none came up to it, the tick of the
entry into `RESOLVED`, which is then at least 15 ticks after the start. What happens after that tick is left open. -/
def Obligations.EveryCycleResolvesInTime : Prop :=
  ∀ s : State, s.acceptsStart →
    ∃ n t, 1 ≤ n ∧ n ≤ 62012 ∧ (∀ j, j < n → s.rstAt j = false) ∧
      (∀ m, 1 ≤ m → m ≤ n → ∃ u, runTicks m s = .next u ∧ u.busy = true) ∧
      runTicks (n + 1) s = .next t ∧
      (s.rstAt n = true ∧ t.st = 0 ∨ s.rstAt n = false ∧ 15 ≤ n ∧ t.done = true)

/-- R141: from any value of the eleven registers and any inputs without a reset, the block is in `IDLE` or `RESOLVED` after
at most 62012 ticks. (R141's clause on `trig` is TriggerLineSettles; log 15.) -/
def Obligations.BlockSettlesFromAnyRegisters : Prop :=
  ∀ s : State, (∀ j, j < 62012 → s.rstAt j = false) →
    ∃ n t, n ≤ 62012 ∧ runTicks n s = .next t ∧ (t.st = 0 ∨ t.st = 5)

/-- R71: the pseudo-line `MEASURE g w` lasts `14 + g + w` ticks; presented to a resting block it is one whole cycle that
measures `d = w`, its last tick the `FALL.EDGE`, and the lines after it are left (for gaps and widths that meet no deadline
in any phase). That the samples to come are held in the state is the model's choice (log 1). -/
def Obligations.MeasureLineIsOneWholeCycle : Prop :=
  ∀ (s : State) (g w : Nat) (rest : List StimLine), s.st = 0 ∨ s.st = 5 →
    s.lines = encodeLines (expandPseudo (.measure g w)) ++ rest → g ≤ 30000 → 2 ≤ w → w ≤ 30002 →
    ticksOf (encodeLines (expandPseudo (.measure g w))) = 14 + g + w ∧
    ∃ v t, runTicks (13 + g + w) s = .next v ∧ v.fsmOp = some .fallEdge ∧
      runTicks (14 + g + w) s = .next t ∧ t.st = 5 ∧ t.cnt.toNat = w ∧ t.lines = rest ∧
      (if 118 ≤ w ∧ w ≤ 23529 then t.dist.toNat = 17 * w ∧ t.valid = true ∧ t.cause = 0
       else t.dist = 0 ∧ t.valid = false ∧ t.cause = 3)

/-- R141's clause on `trig`, in the form that the operations give it (DEDUCED, log 15). From any registers in which `trig` is
1 only with a state code that will write it (`TRIGGERING` or a reserved one), and any inputs, resets among them: from 12
ticks on `trig_o` is low except inside a cycle accepted later. And where `trig` is 1 with another code, which no run from
reset meets (V3), a tick writes it only by accepting a start or by a reset. -/
def Obligations.TriggerLineSettles : Prop :=
  (∀ (s t : State) (n : Nat), (s.trig = true → s.st = 1 ∨ s.st = 6 ∨ s.st = 7) → 12 ≤ n → runTicks n s = .next t →
    (∀ (j : Nat) (u : State), j + 2 < n → runTicks j s = .next u → ¬ u.acceptsStart) → t.outputs.trigO = false) ∧
  ∀ s : State, s.trig = true → s.st = 0 ∨ s.st = 2 ∨ s.st = 3 ∨ s.st = 4 ∨ s.st = 5 →
    ∃ t, step s = .next t ∧ (t.trig = true ↔ s.rstAt 0 = false ∧ ¬ s.acceptsStart)

/-- R141's clause on `expired`, in the form that the operations give it (DEDUCED, log 13). From any registers and any inputs
without a reset, the deadline of the latch `t0` is expired at one of the next 31000 ticks; with a divider of 999 or more, the
first tick takes the divider to 0 and the 31000 are counted after it. That one tick is needed: from a divider of 999 and a
latch one millisecond ahead the deadline is first expired at the 31001st tick. -/
def Obligations.DeadlineExpiresFromAnyRegisters : Prop :=
  (∀ s : State, (∀ j, j ≤ 31000 → s.rstAt j = false) →
    ∃ j u, j ≤ (if s.msDiv.toNat ≤ 998 then 30999 else 31000) ∧ runTicks j s = .next u ∧
      expired u.counted.msNow s.t0 = true) ∧
  ∀ s : State, s.msDiv.toNat = 999 → s.t0 = s.msNow + 1 → (∀ j, j ≤ 31000 → s.rstAt j = false) →
    ∀ (j : Nat) (u : State), j ≤ 31000 → runTicks j s = .next u →
      (expired u.counted.msNow s.t0 = true ↔ j = 31000)
end

