-- ==== Sys2Proof/Laws/Decode.lean ====
section
/-! SUPPORT. The fields of a word built from its fields, so that a decoded word reads as its selection. -/

namespace Sys2Proof

@[simp] theorem mwRst_mwOf (r b : Bit) : mwRst (mwOf r b) = r := by revert r b; decide
@[simp] theorem mwWrap_mwOf (r b : Bit) : mwWrap (mwOf r b) = b := by revert r b; decide
@[simp] theorem cwRst_cwOf (r b : Bit) : cwRst (cwOf r b) = r := by revert r b; decide
@[simp] theorem cwRun_cwOf (r b : Bit) : cwRun (cwOf r b) = b := by revert r b; decide

@[simp] theorem fwRst_fwOf (r : Bit) (c : StCode) (a e x : Bit) (p : PhaseClass) :
    fwRst (fwOf r c a e x p) = r := by revert r c a e x p; decide
@[simp] theorem fwSt_fwOf (r : Bit) (c : StCode) (a e x : Bit) (p : PhaseClass) :
    fwSt (fwOf r c a e x p) = c := by revert r c a e x p; decide
@[simp] theorem fwStart_fwOf (r : Bit) (c : StCode) (a e x : Bit) (p : PhaseClass) :
    fwStart (fwOf r c a e x p) = a := by revert r c a e x p; decide
@[simp] theorem fwEcho_fwOf (r : Bit) (c : StCode) (a e x : Bit) (p : PhaseClass) :
    fwEcho (fwOf r c a e x p) = e := by revert r c a e x p; decide
@[simp] theorem fwExpired_fwOf (r : Bit) (c : StCode) (a e x : Bit) (p : PhaseClass) :
    fwExpired (fwOf r c a e x p) = x := by revert r c a e x p; decide
@[simp] theorem fwPc_fwOf (r : Bit) (c : StCode) (a e x : Bit) (p : PhaseClass) :
    fwPc (fwOf r c a e x p) = p := by revert r c a e x p; decide

/-- R63: the word a unit forms selects by its two bits. -/
@[simp] theorem decode_mwOf (r b : Bit) : decode .ms (mwOf r b) = selectMs r b := by simp [decode]

/-- R65. -/
@[simp] theorem decode_cwOf (r b : Bit) : decode .cnt (cwOf r b) = selectCnt r b := by simp [decode]

/-- R64. -/
@[simp] theorem decode_fwOf (r : Bit) (c : StCode) (a e x : Bit) (p : PhaseClass) :
    decode .fsm (fwOf r c a e x p) = selectFsm r c a e x p := by simp [decode]

end Sys2Proof
end

