-- ==== Sys2Proof/Laws/State.lean ====
section
/-! SUPPORT. For each register operation and each field, what the field is after it; and the reset state, field by field. -/

namespace Sys2Proof.Machine

/-! `State.reset` (R28) -/

@[simp] theorem State.reset_st : State.reset.st = 0 := rfl
@[simp] theorem State.reset_ph : State.reset.ph = 0 := rfl
@[simp] theorem State.reset_trig : State.reset.trig = false := rfl
@[simp] theorem State.reset_cnt : State.reset.cnt = 0 := rfl
@[simp] theorem State.reset_run : State.reset.run = false := rfl
@[simp] theorem State.reset_t0 : State.reset.t0 = 0 := rfl
@[simp] theorem State.reset_msDiv : State.reset.msDiv = 0 := rfl
@[simp] theorem State.reset_msNow : State.reset.msNow = 0 := rfl
@[simp] theorem State.reset_dist : State.reset.dist = 0 := rfl
@[simp] theorem State.reset_valid : State.reset.valid = false := rfl
@[simp] theorem State.reset_cause : State.reset.cause = 0 := rfl
@[simp] theorem State.reset_lines : State.reset.lines = [] := rfl
@[simp] theorem State.reset_tick : State.reset.tick = 0 := rfl

/-! `clearAll` -/

@[simp] theorem clearAll_st (s : State) : (clearAll s).st = 0 := rfl
@[simp] theorem clearAll_ph (s : State) : (clearAll s).ph = 0 := rfl
@[simp] theorem clearAll_trig (s : State) : (clearAll s).trig = false := rfl
@[simp] theorem clearAll_cnt (s : State) : (clearAll s).cnt = 0 := rfl
@[simp] theorem clearAll_run (s : State) : (clearAll s).run = false := rfl
@[simp] theorem clearAll_t0 (s : State) : (clearAll s).t0 = 0 := rfl
@[simp] theorem clearAll_msDiv (s : State) : (clearAll s).msDiv = 0 := rfl
@[simp] theorem clearAll_msNow (s : State) : (clearAll s).msNow = 0 := rfl
@[simp] theorem clearAll_dist (s : State) : (clearAll s).dist = 0 := rfl
@[simp] theorem clearAll_valid (s : State) : (clearAll s).valid = false := rfl
@[simp] theorem clearAll_cause (s : State) : (clearAll s).cause = 0 := rfl
@[simp] theorem clearAll_lines (s : State) : (clearAll s).lines = s.lines := rfl
@[simp] theorem clearAll_tick (s : State) : (clearAll s).tick = s.tick := rfl

/-! `advanceDivider` -/

@[simp] theorem advanceDivider_st (s : State) : (advanceDivider s).st = s.st := rfl
@[simp] theorem advanceDivider_ph (s : State) : (advanceDivider s).ph = s.ph := rfl
@[simp] theorem advanceDivider_trig (s : State) : (advanceDivider s).trig = s.trig := rfl
@[simp] theorem advanceDivider_cnt (s : State) : (advanceDivider s).cnt = s.cnt := rfl
@[simp] theorem advanceDivider_run (s : State) : (advanceDivider s).run = s.run := rfl
@[simp] theorem advanceDivider_t0 (s : State) : (advanceDivider s).t0 = s.t0 := rfl
@[simp] theorem advanceDivider_msDiv (s : State) : (advanceDivider s).msDiv = s.msDiv + 1 := rfl
@[simp] theorem advanceDivider_msNow (s : State) : (advanceDivider s).msNow = s.msNow := rfl
@[simp] theorem advanceDivider_dist (s : State) : (advanceDivider s).dist = s.dist := rfl
@[simp] theorem advanceDivider_valid (s : State) : (advanceDivider s).valid = s.valid := rfl
@[simp] theorem advanceDivider_cause (s : State) : (advanceDivider s).cause = s.cause := rfl
@[simp] theorem advanceDivider_lines (s : State) : (advanceDivider s).lines = s.lines := rfl
@[simp] theorem advanceDivider_tick (s : State) : (advanceDivider s).tick = s.tick := rfl

/-! `advanceMillis` -/

@[simp] theorem advanceMillis_st (s : State) : (advanceMillis s).st = s.st := rfl
@[simp] theorem advanceMillis_ph (s : State) : (advanceMillis s).ph = s.ph := rfl
@[simp] theorem advanceMillis_trig (s : State) : (advanceMillis s).trig = s.trig := rfl
@[simp] theorem advanceMillis_cnt (s : State) : (advanceMillis s).cnt = s.cnt := rfl
@[simp] theorem advanceMillis_run (s : State) : (advanceMillis s).run = s.run := rfl
@[simp] theorem advanceMillis_t0 (s : State) : (advanceMillis s).t0 = s.t0 := rfl
@[simp] theorem advanceMillis_msDiv (s : State) : (advanceMillis s).msDiv = 0 := rfl
@[simp] theorem advanceMillis_msNow (s : State) : (advanceMillis s).msNow = s.msNow + 1 := rfl
@[simp] theorem advanceMillis_dist (s : State) : (advanceMillis s).dist = s.dist := rfl
@[simp] theorem advanceMillis_valid (s : State) : (advanceMillis s).valid = s.valid := rfl
@[simp] theorem advanceMillis_cause (s : State) : (advanceMillis s).cause = s.cause := rfl
@[simp] theorem advanceMillis_lines (s : State) : (advanceMillis s).lines = s.lines := rfl
@[simp] theorem advanceMillis_tick (s : State) : (advanceMillis s).tick = s.tick := rfl

/-! `countMicro` -/

@[simp] theorem countMicro_st (s : State) : (countMicro s).st = s.st := rfl
@[simp] theorem countMicro_ph (s : State) : (countMicro s).ph = s.ph := rfl
@[simp] theorem countMicro_trig (s : State) : (countMicro s).trig = s.trig := rfl
@[simp] theorem countMicro_cnt (s : State) : (countMicro s).cnt = s.cnt + 1 := rfl
@[simp] theorem countMicro_run (s : State) : (countMicro s).run = s.run := rfl
@[simp] theorem countMicro_t0 (s : State) : (countMicro s).t0 = s.t0 := rfl
@[simp] theorem countMicro_msDiv (s : State) : (countMicro s).msDiv = s.msDiv := rfl
@[simp] theorem countMicro_msNow (s : State) : (countMicro s).msNow = s.msNow := rfl
@[simp] theorem countMicro_dist (s : State) : (countMicro s).dist = s.dist := rfl
@[simp] theorem countMicro_valid (s : State) : (countMicro s).valid = s.valid := rfl
@[simp] theorem countMicro_cause (s : State) : (countMicro s).cause = s.cause := rfl
@[simp] theorem countMicro_lines (s : State) : (countMicro s).lines = s.lines := rfl
@[simp] theorem countMicro_tick (s : State) : (countMicro s).tick = s.tick := rfl

/-! `startCounter` -/

@[simp] theorem startCounter_st (s : State) : (startCounter s).st = s.st := rfl
@[simp] theorem startCounter_ph (s : State) : (startCounter s).ph = s.ph := rfl
@[simp] theorem startCounter_trig (s : State) : (startCounter s).trig = s.trig := rfl
@[simp] theorem startCounter_cnt (s : State) : (startCounter s).cnt = 0 := rfl
@[simp] theorem startCounter_run (s : State) : (startCounter s).run = true := rfl
@[simp] theorem startCounter_t0 (s : State) : (startCounter s).t0 = s.t0 := rfl
@[simp] theorem startCounter_msDiv (s : State) : (startCounter s).msDiv = s.msDiv := rfl
@[simp] theorem startCounter_msNow (s : State) : (startCounter s).msNow = s.msNow := rfl
@[simp] theorem startCounter_dist (s : State) : (startCounter s).dist = s.dist := rfl
@[simp] theorem startCounter_valid (s : State) : (startCounter s).valid = s.valid := rfl
@[simp] theorem startCounter_cause (s : State) : (startCounter s).cause = s.cause := rfl
@[simp] theorem startCounter_lines (s : State) : (startCounter s).lines = s.lines := rfl
@[simp] theorem startCounter_tick (s : State) : (startCounter s).tick = s.tick := rfl

/-! `stopCounter` -/

@[simp] theorem stopCounter_st (s : State) : (stopCounter s).st = s.st := rfl
@[simp] theorem stopCounter_ph (s : State) : (stopCounter s).ph = s.ph := rfl
@[simp] theorem stopCounter_trig (s : State) : (stopCounter s).trig = s.trig := rfl
@[simp] theorem stopCounter_cnt (s : State) : (stopCounter s).cnt = s.cnt := rfl
@[simp] theorem stopCounter_run (s : State) : (stopCounter s).run = false := rfl
@[simp] theorem stopCounter_t0 (s : State) : (stopCounter s).t0 = s.t0 := rfl
@[simp] theorem stopCounter_msDiv (s : State) : (stopCounter s).msDiv = s.msDiv := rfl
@[simp] theorem stopCounter_msNow (s : State) : (stopCounter s).msNow = s.msNow := rfl
@[simp] theorem stopCounter_dist (s : State) : (stopCounter s).dist = s.dist := rfl
@[simp] theorem stopCounter_valid (s : State) : (stopCounter s).valid = s.valid := rfl
@[simp] theorem stopCounter_cause (s : State) : (stopCounter s).cause = s.cause := rfl
@[simp] theorem stopCounter_lines (s : State) : (stopCounter s).lines = s.lines := rfl
@[simp] theorem stopCounter_tick (s : State) : (stopCounter s).tick = s.tick := rfl

/-! `latchDeadline` -/

@[simp] theorem latchDeadline_st (s : State) : (latchDeadline s).st = s.st := rfl
@[simp] theorem latchDeadline_ph (s : State) : (latchDeadline s).ph = s.ph := rfl
@[simp] theorem latchDeadline_trig (s : State) : (latchDeadline s).trig = s.trig := rfl
@[simp] theorem latchDeadline_cnt (s : State) : (latchDeadline s).cnt = s.cnt := rfl
@[simp] theorem latchDeadline_run (s : State) : (latchDeadline s).run = s.run := rfl
@[simp] theorem latchDeadline_t0 (s : State) : (latchDeadline s).t0 = s.msNow := rfl
@[simp] theorem latchDeadline_msDiv (s : State) : (latchDeadline s).msDiv = s.msDiv := rfl
@[simp] theorem latchDeadline_msNow (s : State) : (latchDeadline s).msNow = s.msNow := rfl
@[simp] theorem latchDeadline_dist (s : State) : (latchDeadline s).dist = s.dist := rfl
@[simp] theorem latchDeadline_valid (s : State) : (latchDeadline s).valid = s.valid := rfl
@[simp] theorem latchDeadline_cause (s : State) : (latchDeadline s).cause = s.cause := rfl
@[simp] theorem latchDeadline_lines (s : State) : (latchDeadline s).lines = s.lines := rfl
@[simp] theorem latchDeadline_tick (s : State) : (latchDeadline s).tick = s.tick := rfl

/-! `goTo` -/

@[simp] theorem goTo_st (c : StCode) (s : State) : (goTo c s).st = c := rfl
@[simp] theorem goTo_ph (c : StCode) (s : State) : (goTo c s).ph = s.ph := rfl
@[simp] theorem goTo_trig (c : StCode) (s : State) : (goTo c s).trig = s.trig := rfl
@[simp] theorem goTo_cnt (c : StCode) (s : State) : (goTo c s).cnt = s.cnt := rfl
@[simp] theorem goTo_run (c : StCode) (s : State) : (goTo c s).run = s.run := rfl
@[simp] theorem goTo_t0 (c : StCode) (s : State) : (goTo c s).t0 = s.t0 := rfl
@[simp] theorem goTo_msDiv (c : StCode) (s : State) : (goTo c s).msDiv = s.msDiv := rfl
@[simp] theorem goTo_msNow (c : StCode) (s : State) : (goTo c s).msNow = s.msNow := rfl
@[simp] theorem goTo_dist (c : StCode) (s : State) : (goTo c s).dist = s.dist := rfl
@[simp] theorem goTo_valid (c : StCode) (s : State) : (goTo c s).valid = s.valid := rfl
@[simp] theorem goTo_cause (c : StCode) (s : State) : (goTo c s).cause = s.cause := rfl
@[simp] theorem goTo_lines (c : StCode) (s : State) : (goTo c s).lines = s.lines := rfl
@[simp] theorem goTo_tick (c : StCode) (s : State) : (goTo c s).tick = s.tick := rfl

/-! `driveTrigger` -/

@[simp] theorem driveTrigger_st (b : Bit) (s : State) : (driveTrigger b s).st = s.st := rfl
@[simp] theorem driveTrigger_ph (b : Bit) (s : State) : (driveTrigger b s).ph = s.ph + 1 := rfl
@[simp] theorem driveTrigger_trig (b : Bit) (s : State) : (driveTrigger b s).trig = b := rfl
@[simp] theorem driveTrigger_cnt (b : Bit) (s : State) : (driveTrigger b s).cnt = s.cnt := rfl
@[simp] theorem driveTrigger_run (b : Bit) (s : State) : (driveTrigger b s).run = s.run := rfl
@[simp] theorem driveTrigger_t0 (b : Bit) (s : State) : (driveTrigger b s).t0 = s.t0 := rfl
@[simp] theorem driveTrigger_msDiv (b : Bit) (s : State) : (driveTrigger b s).msDiv = s.msDiv := rfl
@[simp] theorem driveTrigger_msNow (b : Bit) (s : State) : (driveTrigger b s).msNow = s.msNow := rfl
@[simp] theorem driveTrigger_dist (b : Bit) (s : State) : (driveTrigger b s).dist = s.dist := rfl
@[simp] theorem driveTrigger_valid (b : Bit) (s : State) : (driveTrigger b s).valid = s.valid := rfl
@[simp] theorem driveTrigger_cause (b : Bit) (s : State) : (driveTrigger b s).cause = s.cause := rfl
@[simp] theorem driveTrigger_lines (b : Bit) (s : State) : (driveTrigger b s).lines = s.lines := rfl
@[simp] theorem driveTrigger_tick (b : Bit) (s : State) : (driveTrigger b s).tick = s.tick := rfl

/-! `restTrigger` -/

@[simp] theorem restTrigger_st (s : State) : (restTrigger s).st = s.st := rfl
@[simp] theorem restTrigger_ph (s : State) : (restTrigger s).ph = 0 := rfl
@[simp] theorem restTrigger_trig (s : State) : (restTrigger s).trig = false := rfl
@[simp] theorem restTrigger_cnt (s : State) : (restTrigger s).cnt = s.cnt := rfl
@[simp] theorem restTrigger_run (s : State) : (restTrigger s).run = s.run := rfl
@[simp] theorem restTrigger_t0 (s : State) : (restTrigger s).t0 = s.t0 := rfl
@[simp] theorem restTrigger_msDiv (s : State) : (restTrigger s).msDiv = s.msDiv := rfl
@[simp] theorem restTrigger_msNow (s : State) : (restTrigger s).msNow = s.msNow := rfl
@[simp] theorem restTrigger_dist (s : State) : (restTrigger s).dist = s.dist := rfl
@[simp] theorem restTrigger_valid (s : State) : (restTrigger s).valid = s.valid := rfl
@[simp] theorem restTrigger_cause (s : State) : (restTrigger s).cause = s.cause := rfl
@[simp] theorem restTrigger_lines (s : State) : (restTrigger s).lines = s.lines := rfl
@[simp] theorem restTrigger_tick (s : State) : (restTrigger s).tick = s.tick := rfl

/-! `writeResult` -/

@[simp] theorem writeResult_st (d : Dist) (v : Bit) (c : CauseCode) (s : State) : (writeResult d v c s).st = s.st := rfl
@[simp] theorem writeResult_ph (d : Dist) (v : Bit) (c : CauseCode) (s : State) : (writeResult d v c s).ph = s.ph := rfl
@[simp] theorem writeResult_trig (d : Dist) (v : Bit) (c : CauseCode) (s : State) : (writeResult d v c s).trig = s.trig := rfl
@[simp] theorem writeResult_cnt (d : Dist) (v : Bit) (c : CauseCode) (s : State) : (writeResult d v c s).cnt = s.cnt := rfl
@[simp] theorem writeResult_run (d : Dist) (v : Bit) (c : CauseCode) (s : State) : (writeResult d v c s).run = s.run := rfl
@[simp] theorem writeResult_t0 (d : Dist) (v : Bit) (c : CauseCode) (s : State) : (writeResult d v c s).t0 = s.t0 := rfl
@[simp] theorem writeResult_msDiv (d : Dist) (v : Bit) (c : CauseCode) (s : State) : (writeResult d v c s).msDiv = s.msDiv := rfl
@[simp] theorem writeResult_msNow (d : Dist) (v : Bit) (c : CauseCode) (s : State) : (writeResult d v c s).msNow = s.msNow := rfl
@[simp] theorem writeResult_dist (d : Dist) (v : Bit) (c : CauseCode) (s : State) : (writeResult d v c s).dist = d := rfl
@[simp] theorem writeResult_valid (d : Dist) (v : Bit) (c : CauseCode) (s : State) : (writeResult d v c s).valid = v := rfl
@[simp] theorem writeResult_cause (d : Dist) (v : Bit) (c : CauseCode) (s : State) : (writeResult d v c s).cause = c := rfl
@[simp] theorem writeResult_lines (d : Dist) (v : Bit) (c : CauseCode) (s : State) : (writeResult d v c s).lines = s.lines := rfl
@[simp] theorem writeResult_tick (d : Dist) (v : Bit) (c : CauseCode) (s : State) : (writeResult d v c s).tick = s.tick := rfl

/-! `takeInput` -/

@[simp] theorem State.takeInput_st (s : State) : s.takeInput.st = s.st := rfl
@[simp] theorem State.takeInput_ph (s : State) : s.takeInput.ph = s.ph := rfl
@[simp] theorem State.takeInput_trig (s : State) : s.takeInput.trig = s.trig := rfl
@[simp] theorem State.takeInput_cnt (s : State) : s.takeInput.cnt = s.cnt := rfl
@[simp] theorem State.takeInput_run (s : State) : s.takeInput.run = s.run := rfl
@[simp] theorem State.takeInput_t0 (s : State) : s.takeInput.t0 = s.t0 := rfl
@[simp] theorem State.takeInput_msDiv (s : State) : s.takeInput.msDiv = s.msDiv := rfl
@[simp] theorem State.takeInput_msNow (s : State) : s.takeInput.msNow = s.msNow := rfl
@[simp] theorem State.takeInput_dist (s : State) : s.takeInput.dist = s.dist := rfl
@[simp] theorem State.takeInput_valid (s : State) : s.takeInput.valid = s.valid := rfl
@[simp] theorem State.takeInput_cause (s : State) : s.takeInput.cause = s.cause := rfl
@[simp] theorem State.takeInput_tick (s : State) : s.takeInput.tick = s.tick + 1 := rfl

end Sys2Proof.Machine
end

