-- ==== Sys2Proof/Laws/Ops.lean ====
section
/-! SUPPORT. What each composed operation does, said once as one record update, and the small facts about the
input bits and the sequencing that later proofs cite instead of unfolding. -/

namespace Sys2Proof.Machine

/-! ## Composed operations as one update -/

/-- R123: everything `resolve_invalid` does. -/
theorem resolveInvalid_eq (c : CauseCode) (s : State) :
    resolveInvalid c s = { s with dist := 0, valid := false, cause := c, st := St.resolved } := rfl

/-- The valid outcome of R95. -/
theorem resolveValid_eq (d : Dist) (s : State) :
    resolveValid d s = { s with dist := d, valid := true, cause := Cause.none, st := St.resolved } := rfl

/-- R81, R105: everything an accepted start does. -/
theorem beginCycle_eq (s : State) :
    beginCycle s = { s with st := St.triggering, ph := 0, trig := false, run := false, dist := 0, valid := false,
                            cause := Cause.none } := rfl

/-- R106: everything the recovery does. -/
theorem recoverIdle_eq (s : State) :
    recoverIdle s = { s with st := St.idle, ph := 0, trig := false, run := false, dist := 0, valid := false,
                             cause := Cause.none } := rfl

/-- R28: everything a reset does. -/
theorem clearAll_eq (s : State) :
    clearAll s = { State.reset with lines := s.lines, tick := s.tick } := rfl

/-! ## Sequencing -/

@[simp] theorem andThen_next (s : State) (f : State → Result) : andThen (.next s) f = f s := rfl

/-- If a sequence answers a next state, its first part did. -/
theorem andThen_eq_next {o : Result} {f : State → Result} {t : State} (h : andThen o f = .next t) :
    ∃ s, o = .next s ∧ f s = .next t := by
  cases o with
  | next s => exact ⟨s, rfl, h⟩
  | fault r => cases r
  | refused r => cases h

/-! ## Input bits -/

@[simp] theorem ivRst_ivOf (r a e : Bit) : ivRst (ivOf r a e) = r := by revert r a e; decide
@[simp] theorem ivStart_ivOf (r a e : Bit) : ivStart (ivOf r a e) = a := by revert r a e; decide
@[simp] theorem ivEcho_ivOf (r a e : Bit) : ivEcho (ivOf r a e) = e := by revert r a e; decide

/-- A line of one tick presents its vector and is used up. -/
@[simp] theorem nextSample_one (iv : InputVector) (rest : List StimLine) :
    nextSample (⟨1, iv⟩ :: rest) = some (iv, rest) := rfl

/-- A longer line presents its vector and stays, one tick shorter. -/
@[simp] theorem nextSample_more (n : Nat) (iv : InputVector) (rest : List StimLine) :
    nextSample (⟨n + 2, iv⟩ :: rest) = some (iv, ⟨n + 1, iv⟩ :: rest) := rfl

/-- A line of no tick presents nothing (log 6). -/
@[simp] theorem nextSample_zero (iv : InputVector) (rest : List StimLine) :
    nextSample (⟨0, iv⟩ :: rest) = nextSample rest := rfl

/-- The sample of a tick depends on the environment's two fields only. -/
theorem State.input_congr {s t : State} (hl : s.lines = t.lines) (ht : s.tick = t.tick) : s.input = t.input := by
  unfold State.input; rw [hl, ht]

/-! ## Predicates -/

theorem wraps_iff (d : Divider) : wraps d = true ↔ 999 ≤ d.toNat := by simp [wraps]

theorem expired_iff (now t0 : Millis) : expired now t0 = true ↔ 30 < (now - t0).toNat := by
  unfold expired elapsedMs Config.timeoutMs
  exact decide_eq_true_iff

theorem plausible_iff (raw : RawDist) : plausible raw = true ↔ 2000 ≤ raw.toNat ∧ raw.toNat ≤ 400000 := by
  unfold plausible Config.minMcm Config.maxMcm
  rw [Bool.and_eq_true, decide_eq_true_iff, decide_eq_true_iff]

theorem phaseClass_low {ph : Phase} (h : ph.toNat < 1) : phaseClass ph = Pc.low := by simp [phaseClass, h]

theorem phaseClass_high {ph : Phase} (h1 : 1 ≤ ph.toNat) (h2 : ph.toNat ≤ 10) : phaseClass ph = Pc.high := by
  unfold phaseClass
  rw [if_neg (by simp [Config.trigPre]; omega), if_pos (by simp [Config.trigPre, Config.trigHigh]; omega)]

theorem phaseClass_ended {ph : Phase} (h : 11 ≤ ph.toNat) : phaseClass ph = Pc.ended := by
  unfold phaseClass
  rw [if_neg (by simp [Config.trigPre]; omega), if_neg (by simp [Config.trigPre, Config.trigHigh]; omega)]

theorem convert_toNat (d : Count) : (convert d).toNat = 17 * d.toNat := by
  have h := d.isLt
  simp only [convert, Config.scaleNum, BitVec.toNat_mul, BitVec.toNat_ofNat, BitVec.toNat_setWidth]
  omega

end Sys2Proof.Machine
end

