-- ==== Sys2Proof/Laws/PerInstr.lean ====
section
/-! SUPPORT. One family of statements about every operation as syntax. -/

namespace Sys2Proof.Laws

/-- Whether the table and the check agree on operation `i` in format `f`: a pattern there whose match has no bit outside
the mask, or no pattern and the check refuses. -/
def patternAgrees (f : Format) (i : Instr) : Bool :=
  match pattern f i with
  | some (bits, mask) => i.wellFormed f && bits &&& ~~~mask == 0
  | none => !i.wellFormed f

/-- Well-formedness is having a row: an operation passes the check for a format exactly when the table gives it a pattern
there. -/
def HasPattern.Statement (i : Instr) : Prop := ∀ f : Format, patternAgrees f i = true

theorem HasPattern.reset : HasPattern.Statement .reset := by intro f; cases f <;> decide
theorem HasPattern.msDiv : HasPattern.Statement .msDiv := by intro f; cases f <;> decide
theorem HasPattern.msWrap : HasPattern.Statement .msWrap := by intro f; cases f <;> decide
theorem HasPattern.cntHold : HasPattern.Statement .cntHold := by intro f; cases f <;> decide
theorem HasPattern.cntInc : HasPattern.Statement .cntInc := by intro f; cases f <;> decide
theorem HasPattern.idleHold : HasPattern.Statement .idleHold := by intro f; cases f <;> decide
theorem HasPattern.idleStart : HasPattern.Statement .idleStart := by intro f; cases f <;> decide
theorem HasPattern.trigLow : HasPattern.Statement .trigLow := by intro f; cases f <;> decide
theorem HasPattern.trigHigh : HasPattern.Statement .trigHigh := by intro f; cases f <;> decide
theorem HasPattern.trigEnd : HasPattern.Statement .trigEnd := by intro f; cases f <;> decide
theorem HasPattern.risePoll : HasPattern.Statement .risePoll := by intro f; cases f <;> decide
theorem HasPattern.riseEdge : HasPattern.Statement .riseEdge := by intro f; cases f <;> decide
theorem HasPattern.riseTimeout : HasPattern.Statement .riseTimeout := by intro f; cases f <;> decide
theorem HasPattern.timingArm : HasPattern.Statement .timingArm := by intro f; cases f <;> decide
theorem HasPattern.fallPoll : HasPattern.Statement .fallPoll := by intro f; cases f <;> decide
theorem HasPattern.fallEdge : HasPattern.Statement .fallEdge := by intro f; cases f <;> decide
theorem HasPattern.fallTimeout : HasPattern.Statement .fallTimeout := by intro f; cases f <;> decide
theorem HasPattern.resHold : HasPattern.Statement .resHold := by intro f; cases f <;> decide
theorem HasPattern.resStart : HasPattern.Statement .resStart := by intro f; cases f <;> decide
theorem HasPattern.badRecover : HasPattern.Statement .badRecover := by intro f; cases f <;> decide

end Sys2Proof.Laws
end

