-- ==== Sys2Proof/Laws/Step.lean ====
section
/-! SUPPORT. What one tick can do, said once: the step as a pure function of the registers and the sample, and how a run
meets its inputs. -/

namespace Sys2Proof.Machine

/-! ## The units as pure functions -/

/-- What the MS unit leaves at a tick without reset (R110, R111). -/
def msNext (s : State) : State := if wraps s.msDiv then advanceMillis s else advanceDivider s

/-- What the CNT unit leaves at a tick without reset (R112, R113). -/
def cntNext (s : State) : State := if s.run then countMicro s else s

/-- What an operation leaves; every operation leaves a next state. -/
def after (i : Instr) (s : State) : State :=
  match exec i s with
  | .next t => t
  | _ => s

/-- Every operation completes in every state. -/
theorem exec_eq_after (i : Instr) (s : State) : exec i s = .next (after i s) := by
  cases i <;> rfl

/-- No operation touches the environment's samples. -/
theorem after_lines (i : Instr) (s : State) : (after i s).lines = s.lines := by
  cases i <;> try rfl
  simp only [after, exec, execFallEdge, resolveMeasured]
  split <;> rfl

/-- No operation touches the tick number. -/
theorem after_tick (i : Instr) (s : State) : (after i s).tick = s.tick := by
  cases i <;> try rfl
  simp only [after, exec, execFallEdge, resolveMeasured]
  split <;> rfl

/-- The operation of the FSM unit for the sample `iv` in a state that the other units have left. -/
def fsmSelect (iv : InputVector) (u : State) : Instr :=
  selectFsm (ivRst iv) u.st (ivStart iv) (ivEcho iv) (expired u.msNow u.t0) (phaseClass u.ph)

theorem runMsUnit_eq {iv : InputVector} (h : ivRst iv = false) (s : State) :
    runMsUnit iv s = .next (msNext s) := by
  cases hw : wraps s.msDiv <;> simp [runMsUnit, msWord, h, selectMs, msNext, hw, exec, execMsWrap, execMsDiv]

theorem runCntUnit_eq {iv : InputVector} (h : ivRst iv = false) (s : State) :
    runCntUnit iv s = .next (cntNext s) := by
  cases hw : s.run <;> simp [runCntUnit, cntWord, h, selectCnt, cntNext, hw, exec, execCntInc, execCntHold]

theorem runFsmUnit_eq (iv : InputVector) (u : State) :
    runFsmUnit iv u = .next (after (fsmSelect iv u) u) := by
  simp only [runFsmUnit, fsmWord, decode_fwOf, exec_eq_after, fsmSelect]

/-- R140: a reset tick. -/
theorem step_of_rst {s : State} (h : ivRst s.input = true) : step s = .next (clearAll s.takeInput) := by
  simp [step, runTick, h, runFsmUnit, fsmWord, selectFsm, exec, execReset]

/-- R66: a tick without reset, the three units in their order. -/
theorem step_of_run {s : State} (h : ivRst s.input = false) :
    step s = .next (after (fsmSelect s.input (cntNext (msNext s.takeInput))) (cntNext (msNext s.takeInput))) := by
  simp [step, runTick, h, runMsUnit_eq h, runCntUnit_eq h, runFsmUnit_eq]

/-- What one tick leaves, as a function. -/
def tickAfter (s : State) : State :=
  if ivRst s.input then clearAll s.takeInput
  else after (fsmSelect s.input (cntNext (msNext s.takeInput))) (cntNext (msNext s.takeInput))

/-- R66, R141: `Step` is total. -/
theorem step_eq (s : State) : step s = .next (tickAfter s) := by
  unfold tickAfter
  cases h : ivRst s.input
  · simpa using step_of_run h
  · simpa using step_of_rst h

theorem fsmOp_of_run {s : State} (h : ivRst s.input = false) :
    s.fsmOp = some (fsmSelect s.input (cntNext (msNext s.takeInput))) := by
  simp [State.fsmOp, State.atFsm, h, runMsUnit_eq h, runCntUnit_eq h, fsmWord, fsmSelect]

/-! ## The MS and CNT units, field by field -/

@[simp] theorem msNext_st (s : State) : (msNext s).st = s.st := by unfold msNext; split <;> rfl
@[simp] theorem msNext_ph (s : State) : (msNext s).ph = s.ph := by unfold msNext; split <;> rfl
@[simp] theorem msNext_trig (s : State) : (msNext s).trig = s.trig := by unfold msNext; split <;> rfl
@[simp] theorem msNext_cnt (s : State) : (msNext s).cnt = s.cnt := by unfold msNext; split <;> rfl
@[simp] theorem msNext_run (s : State) : (msNext s).run = s.run := by unfold msNext; split <;> rfl
@[simp] theorem msNext_t0 (s : State) : (msNext s).t0 = s.t0 := by unfold msNext; split <;> rfl
@[simp] theorem msNext_dist (s : State) : (msNext s).dist = s.dist := by unfold msNext; split <;> rfl
@[simp] theorem msNext_valid (s : State) : (msNext s).valid = s.valid := by unfold msNext; split <;> rfl
@[simp] theorem msNext_cause (s : State) : (msNext s).cause = s.cause := by unfold msNext; split <;> rfl
@[simp] theorem msNext_lines (s : State) : (msNext s).lines = s.lines := by unfold msNext; split <;> rfl
@[simp] theorem msNext_tick (s : State) : (msNext s).tick = s.tick := by unfold msNext; split <;> rfl
@[simp] theorem msNext_msNow (s : State) : (msNext s).msNow = millisNext s := by
  unfold msNext millisNext; split <;> rfl
theorem msNext_msDiv (s : State) : (msNext s).msDiv = if wraps s.msDiv then 0 else s.msDiv + 1 := by
  unfold msNext; split <;> rfl

@[simp] theorem cntNext_st (s : State) : (cntNext s).st = s.st := by unfold cntNext; split <;> rfl
@[simp] theorem cntNext_ph (s : State) : (cntNext s).ph = s.ph := by unfold cntNext; split <;> rfl
@[simp] theorem cntNext_trig (s : State) : (cntNext s).trig = s.trig := by unfold cntNext; split <;> rfl
@[simp] theorem cntNext_run (s : State) : (cntNext s).run = s.run := by unfold cntNext; split <;> rfl
@[simp] theorem cntNext_t0 (s : State) : (cntNext s).t0 = s.t0 := by unfold cntNext; split <;> rfl
@[simp] theorem cntNext_msDiv (s : State) : (cntNext s).msDiv = s.msDiv := by unfold cntNext; split <;> rfl
@[simp] theorem cntNext_msNow (s : State) : (cntNext s).msNow = s.msNow := by unfold cntNext; split <;> rfl
@[simp] theorem cntNext_dist (s : State) : (cntNext s).dist = s.dist := by unfold cntNext; split <;> rfl
@[simp] theorem cntNext_valid (s : State) : (cntNext s).valid = s.valid := by unfold cntNext; split <;> rfl
@[simp] theorem cntNext_cause (s : State) : (cntNext s).cause = s.cause := by unfold cntNext; split <;> rfl
@[simp] theorem cntNext_lines (s : State) : (cntNext s).lines = s.lines := by unfold cntNext; split <;> rfl
@[simp] theorem cntNext_tick (s : State) : (cntNext s).tick = s.tick := by unfold cntNext; split <;> rfl
theorem cntNext_cnt (s : State) : (cntNext s).cnt = if s.run then s.cnt + 1 else s.cnt := by
  unfold cntNext; split <;> rfl

@[simp] theorem millisNext_takeInput (s : State) : millisNext s.takeInput = millisNext s := rfl

/-- The two counting units together leave what `State.counted` says in the spec's own words. -/
theorem cntNext_msNext_eq (s : State) : cntNext (msNext s.takeInput) = s.counted := by
  have hw := wraps_iff s.msDiv
  unfold cntNext msNext State.counted
  by_cases h : 999 ≤ s.msDiv.toNat
  · cases hr : s.run <;> simp [hw.mpr h, h, hr, advanceMillis, countMicro, State.takeInput]
  · have hf : wraps s.msDiv = false := by simpa [h] using hw
    cases hr : s.run <;> simp [hf, h, hr, advanceDivider, countMicro, State.takeInput]

/-! ## Runs and their inputs -/

@[simp] theorem runTicks_zero (s : State) : runTicks 0 s = .next s := rfl

theorem runTicks_succ (n : Nat) (s : State) : runTicks (n + 1) s = runTicks n (tickAfter s) := by
  simp [runTicks, step_eq]

/-- A run never stops. -/
theorem runTicks_next (n : Nat) (s : State) : ∃ t, runTicks n s = .next t := by
  induction n generalizing s with
  | zero => exact ⟨s, rfl⟩
  | succ n ih => rw [runTicks_succ]; exact ih _

/-- A run of `m + n` ticks is a run of `n` after a run of `m`. -/
theorem runTicks_add (m n : Nat) (s : State) : runTicks (m + n) s = andThen (runTicks m s) (runTicks n) := by
  induction m generalizing s with
  | zero => simp
  | succ m ih => rw [Nat.add_right_comm, runTicks_succ, runTicks_succ, ih]

/-- One more tick at the end of a run. -/
theorem runTicks_snoc {n : Nat} {s t : State} (h : runTicks n s = .next t) :
    runTicks (n + 1) s = .next (tickAfter t) := by
  rw [runTicks_add, h]; simp [runTicks, step_eq]

theorem tickAfter_lines (s : State) : (tickAfter s).lines = s.takeInput.lines := by
  unfold tickAfter; split
  · rfl
  · simp [after_lines]

theorem tickAfter_tick (s : State) : (tickAfter s).tick = s.tick + 1 := by
  unfold tickAfter; split
  · rfl
  · simp [after_tick]

/-- The inputs to come depend on the environment's two fields only. -/
theorem inputAt_congr {s t : State} (hl : s.lines = t.lines) (ht : s.tick = t.tick) (j : Nat) :
    s.inputAt j = t.inputAt j := by
  induction j generalizing s t with
  | zero => exact State.input_congr hl ht
  | succ j ih =>
    simp only [State.inputAt]
    exact ih (by simp [State.takeInput, hl]) (by simp [ht])

/-- After one tick the inputs are the same ones, one nearer. -/
theorem inputAt_tickAfter (s : State) (j : Nat) : (tickAfter s).inputAt j = s.inputAt (j + 1) :=
  inputAt_congr (tickAfter_lines s) (tickAfter_tick s) j

/-- After `n` ticks the inputs are the same ones, `n` nearer. -/
theorem inputAt_runTicks {n : Nat} {s t : State} (h : runTicks n s = .next t) (j : Nat) :
    t.inputAt j = s.inputAt (n + j) := by
  induction n generalizing s with
  | zero => cases h; simp
  | succ n ih =>
    rw [runTicks_succ] at h
    rw [ih h, inputAt_tickAfter]
    congr 1
    omega

/-- A stimulus line of `n` ticks presents its vector `n` times (R71). -/
theorem inputAt_line {s : State} {n : Nat} {iv : InputVector} {rest : List StimLine}
    (h : s.lines = ⟨n, iv⟩ :: rest) {j : Nat} (hj : j < n) : s.inputAt j = iv := by
  induction j generalizing s n with
  | zero =>
    match n, hj with
    | 1, _ => simp [State.inputAt, State.input, h]
    | n + 2, _ => simp [State.inputAt, State.input, h]
  | succ j ih =>
    match n, hj with
    | 1, hj => omega
    | n + 2, hj => exact ih (s := s.takeInput) (n := n + 1) (by simp [State.takeInput, h]) (by omega)

/-- After a stimulus line of `n` ticks the lines after it follow (R71). -/
theorem inputAt_past_line {s : State} {n : Nat} {iv : InputVector} {rest : List StimLine}
    (h : s.lines = ⟨n, iv⟩ :: rest) (j : Nat) :
    s.inputAt (n + j) = ({ s with lines := rest, tick := s.tick + n } : State).inputAt j := by
  induction n generalizing s with
  | zero =>
    simp only [Nat.zero_add, Nat.add_zero]
    have hn : nextSample s.lines = nextSample rest := by rw [h]; rfl
    cases j with
    | zero => simp [State.inputAt, State.input, hn]
    | succ j =>
      simp only [State.inputAt]
      refine inputAt_congr ?_ ?_ j
      · simp [State.takeInput, hn]
      · simp
  | succ n ih =>
    rw [Nat.add_right_comm]
    simp only [State.inputAt]
    cases n with
    | zero =>
      rw [Nat.zero_add]
      refine inputAt_congr ?_ ?_ j
      · simp [State.takeInput, h]
      · simp
    | succ n =>
      rw [ih (s := s.takeInput) (by simp [State.takeInput, h])]
      refine inputAt_congr ?_ ?_ j
      · simp
      · simp only [State.takeInput_tick]
        omega

end Sys2Proof.Machine
end

