-- ==== Sys2Proof/Tests/Slice0.lean ====
section
/-! SUPPORT. The model's own tests. Expected values are those of spec/95_test_vectors.md (a test named after a vector V<n>)
or written out from a pattern of spec/30_encoding.md; the witnesses show that the hypotheses of a statement can be met. -/

open Sys2Proof Sys2Proof.Machine

namespace Sys2Proof.Tests

/-! ## Well-formedness: each check refuses an ill-formed term -/

theorem test_ms_word_of_another_unit_refused : Instr.wellFormed .ms .cntInc = false := by decide
theorem test_cnt_word_of_another_unit_refused : Instr.wellFormed .cnt .fallEdge = false := by decide
theorem test_fsm_word_of_another_unit_refused : Instr.wellFormed .fsm .msWrap = false := by decide
theorem test_line_of_no_tick_refused : StimLine.wellFormed ⟨0, 0b001⟩ = false := by decide
theorem test_well_formed_accepted :
    Instr.wellFormed .ms .msWrap = true ∧ Instr.wellFormed .cnt .reset = true ∧ StimLine.wellFormed ⟨1, 0⟩ = true := by decide

/-! ## Decoding: for every constructor a word written out from R63, R64 or R65 -/

theorem test_decode_ms : decode .ms 0b00 = .msDiv ∧ decode .ms 0b01 = .msWrap ∧ decode .ms 0b10 = .reset := by decide
theorem test_decode_cnt : decode .cnt 0b00 = .cntHold ∧ decode .cnt 0b01 = .cntInc ∧ decode .cnt 0b11 = .reset := by decide
/-- The words of V1, V2, V4, V6, V8, V10, and a phase class of 3. -/
theorem test_decode_trigger :
    decode .fsm 0b1_100_1_1_0_00#9 = .reset ∧ decode .fsm 0b0_000_0_1_0_00#9 = .idleHold ∧
    decode .fsm 0b0_000_1_0_0_00#9 = .idleStart ∧ decode .fsm 0b0_001_1_1_0_00#9 = .trigLow ∧
    decode .fsm 0b0_001_0_0_0_01#9 = .trigHigh ∧ decode .fsm 0b0_001_0_0_0_10#9 = .trigEnd ∧
    decode .fsm 0b0_001_0_0_0_11#9 = .trigEnd := by decide
/-- The words of V12, V14, V15, V17, V18, V19, V25 and V26. -/
theorem test_decode_waits :
    decode .fsm 0b0_010_0_0_0_00#9 = .risePoll ∧ decode .fsm 0b0_010_0_1_1_00#9 = .riseEdge ∧
    decode .fsm 0b0_010_1_0_1_00#9 = .riseTimeout ∧ decode .fsm 0b0_011_0_0_0_00#9 = .timingArm ∧
    decode .fsm 0b0_100_0_1_0_00#9 = .fallPoll ∧ decode .fsm 0b0_100_0_0_0_00#9 = .fallEdge ∧
    decode .fsm 0b0_100_0_1_1_00#9 = .fallTimeout ∧ decode .fsm 0b0_100_0_0_1_00#9 = .fallEdge := by decide
/-- The words of V28, V5, V30 and V31. -/
theorem test_decode_resolved :
    decode .fsm 0b0_101_0_1_1_00#9 = .resHold ∧ decode .fsm 0b0_101_1_1_0_00#9 = .resStart ∧
    decode .fsm 0b0_111_1_0_0_01#9 = .badRecover ∧ decode .fsm 0b0_110_0_0_0_00#9 = .badRecover := by decide
/-- The encoder keeps the bits that do not matter: V5 is `RES.START` with `echo` high. -/
theorem test_encode_fills :
    encode .fsm .resStart 0b0_000_0_1_0_00#9 = some 0b0_101_1_1_0_00#9 ∧ encode .ms .msWrap 0b10 = some 0b01 ∧
    encode .cnt .msWrap 0 = none := by decide
/-- The host's two questions, on the table's words for `FALL.EDGE` and `MS.WRAP`, and on a number that is no word. -/
theorem test_table_words :
    decodeTableWord 16 0x080 = some .fallEdge ∧ decodeTableWord 8 1 = some .msWrap ∧ decodeTableWord 16 0x200 = none := by
  decide
theorem test_placed_word :
    (State.reset.withFetchWord 16 0x084).fsmOp = some .fallEdge ∧ (State.reset.withFetchWord 8 1).msOp = .msWrap ∧
    (State.reset.withFetchWord 8 1).cntOp = .cntInc := by decide

/-! ## One tick each (95_test_vectors.md section 2) -/

/-- `s` with one more tick to come, at which the environment presents `iv`. -/
def presented (s : State) (iv : InputVector) : State := { s with lines := ⟨1, iv⟩ :: s.lines }

/-- Whether the tick at which `iv` is sampled takes `s` to the registers of `t`. -/
def leaves (s : State) (iv : InputVector) (t : State) : Bool :=
  match step (presented s iv) with
  | .next u => decide (sameRegisters u t)
  | _ => false

/-- V1: `reset`. -/
theorem test_V1 :
    leaves { State.reset with st := 4, cnt := 500, run := true, t0 := 11, msDiv := 7, msNow := 12 } 0b111
      State.reset = true := by decide

/-- V2: `msDiv, cntHold, idleHold`. -/
theorem test_V2 :
    leaves State.reset 0b001
      { State.reset with msDiv := 1 } = true := by decide

/-- V3: `msWrap`. -/
theorem test_V3 :
    leaves { State.reset with msDiv := 999, msNow := 65535 } 0b000
      State.reset = true := by decide

/-- V32: `msWrap, above 999`. -/
theorem test_V32 :
    leaves { State.reset with st := 2, t0 := 4, msDiv := 1023, msNow := 4 } 0b000
      { State.reset with st := 2, t0 := 4, msNow := 5 } = true := by decide

/-- V33: `cntInc, the wrap`. -/
theorem test_V33 :
    leaves { State.reset with st := 4, cnt := 65535, run := true } 0b001
      { State.reset with st := 4, run := true, msDiv := 1 } = true := by decide

/-- V18: `cntInc, fallPoll`. -/
theorem test_V18 :
    leaves { State.reset with st := 4, cnt := 499, run := true, t0 := 9, msDiv := 500, msNow := 9 } 0b001
      { State.reset with st := 4, cnt := 500, run := true, t0 := 9, msDiv := 501, msNow := 9 } = true := by decide

/-- V4: `idleStart`. -/
theorem test_V4 :
    leaves State.reset 0b010
      { State.reset with st := 1, msDiv := 1 } = true := by decide

/-- V6: `trigLow`. -/
theorem test_V6 :
    leaves { State.reset with st := 1, msDiv := 5 } 0b011
      { State.reset with st := 1, msDiv := 6, ph := 1 } = true := by decide

/-- V7: `trigHigh`. -/
theorem test_V7 :
    leaves { State.reset with st := 1, ph := 1, msDiv := 6 } 0b000
      { State.reset with st := 1, ph := 2, msDiv := 7, trig := true } = true := by decide

/-- V8: `trigHigh`. -/
theorem test_V8 :
    leaves { State.reset with st := 1, ph := 10, trig := true, msDiv := 15 } 0b000
      { State.reset with st := 1, ph := 11, trig := true, msDiv := 16 } = true := by decide

/-- V9: `trigEnd`. -/
theorem test_V9 :
    leaves { State.reset with st := 1, ph := 11, trig := true, msDiv := 999, msNow := 6 } 0b001
      { State.reset with st := 2, msNow := 7, t0 := 7 } = true := by decide

/-- V10: `trigEnd`. -/
theorem test_V10 :
    leaves { State.reset with st := 1, ph := 14, trig := true, msDiv := 3, msNow := 2 } 0b000
      { State.reset with st := 2, msDiv := 4, msNow := 2, t0 := 2 } = true := by decide

/-- V11: `risePoll`. -/
theorem test_V11 :
    leaves { State.reset with st := 2, t0 := 7, msDiv := 100, msNow := 20 } 0b000
      { State.reset with st := 2, t0 := 7, msDiv := 101, msNow := 20 } = true := by decide

/-- V12: `risePoll`. -/
theorem test_V12 :
    leaves { State.reset with st := 2, cnt := 1000, t0 := 7, msDiv := 998, msNow := 37 } 0b000
      { State.reset with st := 2, cnt := 1000, t0 := 7, msDiv := 999, msNow := 37 } = true := by decide

/-- V13: `riseTimeout`. -/
theorem test_V13 :
    leaves { State.reset with st := 2, cnt := 1000, t0 := 7, msDiv := 999, msNow := 37 } 0b000
      { State.reset with st := 5, cnt := 1000, t0 := 7, msNow := 38, cause := 1 } = true := by decide

/-- V15: `riseTimeout`. -/
theorem test_V15 :
    leaves { State.reset with st := 2, t0 := 65520, msDiv := 10, msNow := 15 } 0b010
      { State.reset with st := 5, t0 := 65520, msDiv := 11, msNow := 15, cause := 1 } = true := by decide

/-- V14: `riseEdge`. -/
theorem test_V14 :
    leaves { State.reset with st := 2, cnt := 1000, t0 := 7, msDiv := 999, msNow := 37 } 0b001
      { State.reset with st := 3, t0 := 7, msNow := 38, run := true } = true := by decide

/-- V16: `riseEdge`. -/
theorem test_V16 :
    leaves { State.reset with st := 2, cnt := 1000, t0 := 7, msDiv := 10, msNow := 9 } 0b001
      { State.reset with st := 3, t0 := 7, msDiv := 11, msNow := 9, run := true } = true := by decide

/-- V17: `timingArm`. -/
theorem test_V17 :
    leaves { State.reset with st := 3, run := true, t0 := 7, msDiv := 999, msNow := 9 } 0b000
      { State.reset with st := 4, run := true, t0 := 10, msNow := 10, cnt := 1 } = true := by decide

/-- V27: `fallPoll`. -/
theorem test_V27 :
    leaves { State.reset with st := 4, cnt := 30500, run := true, msDiv := 500, msNow := 30 } 0b001
      { State.reset with st := 4, cnt := 30501, run := true, msDiv := 501, msNow := 30 } = true := by decide

/-- V23: `fallEdge`. -/
theorem test_V23 :
    leaves { State.reset with st := 4, cnt := 23528, run := true, t0 := 9, msDiv := 60, msNow := 32 } 0b000
      { State.reset with st := 5, cnt := 23529, t0 := 9, msDiv := 61, msNow := 32, dist := 399993, valid := true } = true := by decide

/-- V26: `fallEdge`. -/
theorem test_V26 :
    leaves { State.reset with st := 4, cnt := 31000, run := true, msDiv := 999, msNow := 30 } 0b000
      { State.reset with st := 5, cnt := 31001, msNow := 31, cause := 3 } = true := by decide

/-- V25: `fallTimeout`. -/
theorem test_V25 :
    leaves { State.reset with st := 4, cnt := 30881, run := true, msDiv := 999, msNow := 30 } 0b001
      { State.reset with st := 5, cnt := 30882, msNow := 31, cause := 2 } = true := by decide

/-- V28: `resHold`. -/
theorem test_V28 :
    leaves { State.reset with st := 5, cnt := 30882, msDiv := 5, msNow := 31, cause := 2 } 0b001
      { State.reset with st := 5, cnt := 30882, msDiv := 6, msNow := 31, cause := 2 } = true := by decide

/-- V29: `resStart`. -/
theorem test_V29 :
    leaves { State.reset with st := 5, cnt := 30882, msDiv := 5, msNow := 31, cause := 2 } 0b010
      { State.reset with st := 1, cnt := 30882, msDiv := 6, msNow := 31 } = true := by decide

/-- V5: `resStart`. -/
theorem test_V5 :
    leaves { State.reset with st := 5, cnt := 1000, msDiv := 468, msNow := 1, dist := 17000, valid := true } 0b011
      { State.reset with st := 1, cnt := 1000, msDiv := 469, msNow := 1 } = true := by decide

/-- V30: `badRecover`. -/
theorem test_V30 :
    leaves { State.reset with st := 7, ph := 9, trig := true, cnt := 77, run := true, dist := 5, valid := true, cause := 2 } 0b010
      { State.reset with cnt := 78, msDiv := 1 } = true := by decide

/-- V31: `badRecover`. -/
theorem test_V31 :
    leaves { State.reset with st := 6 } 0b000
      { State.reset with msDiv := 1 } = true := by decide

/-- Section 2.5, the rows of the filter next to its bounds, and R114's example of a wrapped difference. -/
theorem test_filter_and_deadline :
    convert 117 = 1989 ∧ plausible 1989 = false ∧ convert 118 = 2006 ∧ plausible 2006 = true ∧
    convert 23530 = 400010 ∧ plausible 400010 = false ∧ expired 15 65520 = true ∧ expired 14 65520 = false := by decide

/-- The words of V9 as its units form them: `MW` 01, `CW` 00 and, after them, `FW` 0 001 0 1 0 10. -/
theorem test_words_of_V9 :
    msWord 0b001 { State.reset with st := 1, ph := 11, msDiv := 999, msNow := 6 } = 0b01 ∧
    cntWord 0b001 State.reset = 0b00 ∧
    fsmWord 0b001 { State.reset with st := 1, ph := 11, msNow := 7 } = 0b0_001_0_1_0_10#9 := by decide

/-- R71: `MEASURE 5 1000` expands to these pairs. -/
theorem test_measure_expands :
    encodeLines (expandPseudo (.measure 5 1000)) = [⟨1, 0b010⟩, ⟨12, 0b000⟩, ⟨5, 0b000⟩, ⟨1000, 0b001⟩, ⟨1, 0b000⟩] := by
  decide
/-! ## Witnesses: the hypotheses of each statement, met together, each clause at its boundary values -/

/-- A state in the rise wait at V12 or V13: the deadline (elapsed 30) not expired, or, with the divider at 999, expired. -/
def riseWait (d : Divider) : State := { State.reset with st := 2, cnt := 1000, t0 := 7, msDiv := d, msNow := 37 }

/-- A state in the fall wait with the count `c` and elapsed 30, which meets the invariant for a count near 30881 + d. -/
def fallWait (d : Divider) (c : Count) : State :=
  { State.reset with st := 4, cnt := c, run := true, msDiv := d, msNow := 30 }

/-- A resolved state with the valid result of the count 118. -/
def validResult : State := { State.reset with st := 5, cnt := 118, dist := 2006, valid := true }

/-- `s` with these stimulus lines to come. -/
def withLines (s : State) (ls : List StimLine) : State := { s with lines := ls }

theorem riseWait_waiting : ¬ (presented (riseWait 998) 0).deadlinePassed := by unfold State.deadlinePassed; decide
theorem riseWait_expired : (presented (riseWait 999) 0).deadlinePassed := by unfold State.deadlinePassed; decide
theorem fallWait_waiting : ¬ (presented (fallWait 998 30880) 1).deadlinePassed := by unfold State.deadlinePassed; decide
theorem fallWait_expired : (presented (fallWait 999 30881) 1).deadlinePassed := by unfold State.deadlinePassed; decide

/-- A line of `n` ticks presents no reset, no start and the echo level `e` for `n` ticks. -/
theorem line_bits (s : State) (n : Nat) (a e : Bit) (rest : List StimLine) (j : Nat) (hj : j < n) :
    (withLines s (⟨n, ivOf false a e⟩ :: rest)).rstAt j = false ∧
    (withLines s (⟨n, ivOf false a e⟩ :: rest)).startAt j = a ∧
    (withLines s (⟨n, ivOf false a e⟩ :: rest)).echoAt j = e := by
  have h := inputAt_line (s := withLines s (⟨n, ivOf false a e⟩ :: rest)) rfl hj
  simp [State.rstAt, State.startAt, State.echoAt, h]

/-- The same for a line of `m` ticks after one of `n`. -/
theorem second_line_bits (s : State) (n m : Nat) (a e a' e' : Bit) (rest : List StimLine) (j : Nat) (hj : j < m) :
    (withLines s (⟨n, ivOf false a e⟩ :: ⟨m, ivOf false a' e'⟩ :: rest)).rstAt (n + j) = false ∧
    (withLines s (⟨n, ivOf false a e⟩ :: ⟨m, ivOf false a' e'⟩ :: rest)).startAt (n + j) = a' ∧
    (withLines s (⟨n, ivOf false a e⟩ :: ⟨m, ivOf false a' e'⟩ :: rest)).echoAt (n + j) = e' := by
  have h := inputAt_past_line (s := withLines s (⟨n, ivOf false a e⟩ :: ⟨m, ivOf false a' e'⟩ :: rest)) rfl j
  rw [inputAt_line rfl hj] at h
  simp [State.rstAt, State.startAt, State.echoAt, h]

theorem test_witness_ResetTickLeavesEveryRegisterZero : (presented (fallWait 999 30881) 0b111).rstAt 0 = true := by decide

theorem test_witness_DividerAdvancesBelowItsTop :
    (presented State.reset 0).rstAt 0 = false ∧ State.reset.msDiv.toNat < 999 ∧
    (presented (riseWait 998) 0).rstAt 0 = false ∧ (presented (riseWait 998) 0).msDiv.toNat < 999 := by decide

theorem test_witness_MillisecondPassesEveryThousandTicks :
    ((presented (riseWait 999) 0).rstAt 0 = false ∧ 999 ≤ (presented (riseWait 999) 0).msDiv.toNat ∧
      999 ≤ (presented (riseWait 1023) 0).msDiv.toNat) ∧
    (Instr.wellFormed .fsm .timingArm = true ∧ Instr.timingArm ≠ .reset ∧
      exec .timingArm State.reset = .next { State.reset with st := 4 }) ∧
    (withLines State.reset [⟨1000, 0⟩]).msDiv = 0 ∧ ∀ j, j < 1000 → (withLines State.reset [⟨1000, 0⟩]).rstAt j = false :=
  ⟨by decide, ⟨by decide, by decide, rfl⟩, rfl, fun j hj => (line_bits State.reset 1000 false false [] j hj).1⟩

theorem test_witness_CounterHoldsOrCounts :
    (presented State.reset 0).rstAt 0 = false ∧ (presented (fallWait 0 1) 0).rstAt 0 = false := by decide

theorem test_witness_HoldAndPollOperationsWriteNothing :
    (Instr.fallPoll = .idleHold ∨ Instr.fallPoll = .risePoll ∨ Instr.fallPoll = .fallPoll ∨ Instr.fallPoll = .resHold ∨
      Instr.fallPoll = .cntHold) := by decide

theorem test_witness_StartOperationsBeginACycle : (Instr.resStart = .idleStart ∨ Instr.resStart = .resStart) := by decide

theorem test_witness_TriggerOperationsShapeThePulse :
    (State.reset.ph).toNat ≤ 10 ∧ (10 : Phase).toNat ≤ 10 := by decide

theorem test_witness_FallEdgeConvertsAndFilters :
    (118 ≤ (fallWait 0 118).cnt.toNat ∧ (fallWait 0 118).cnt.toNat ≤ 23529) ∧
    (118 ≤ (fallWait 0 23529).cnt.toNat ∧ (fallWait 0 23529).cnt.toNat ≤ 23529) ∧
    ¬ (118 ≤ (fallWait 0 117).cnt.toNat ∧ (fallWait 0 117).cnt.toNat ≤ 23529) ∧
    ¬ (118 ≤ (fallWait 0 23530).cnt.toNat ∧ (fallWait 0 23530).cnt.toNat ≤ 23529) := by decide

theorem test_witness_ConditionsResolveThroughOneMacro :
    plausible (convert (fallWait 0 117).cnt) = false ∧ plausible (convert (fallWait 0 118).cnt) = true ∧
    plausible (convert (fallWait 0 23529).cnt) = true ∧ plausible (convert (fallWait 0 23530).cnt) = false := by decide

/-- One operation that answers a next state for each clause: `RESET` from a state with no register at 0, and the first
`TRIG.HIGH`. -/
theorem test_witness_OnlyListedOperationsWriteEachRegister :
    let s : State := { st := 1, ph := 1, trig := true, cnt := 1, run := true, t0 := 1, msDiv := 1, msNow := 1, dist := 1,
                       valid := true, cause := 1, lines := [], tick := 0 }
    (exec .reset s = .next State.reset ∧ State.reset.st ≠ s.st ∧ State.reset.ph ≠ s.ph ∧ State.reset.cnt ≠ s.cnt ∧
      State.reset.run ≠ s.run ∧ State.reset.t0 ≠ s.t0 ∧ State.reset.msDiv ≠ s.msDiv ∧ State.reset.msNow ≠ s.msNow ∧
      State.reset.dist ≠ s.dist) ∧
    exec .trigHigh State.reset = .next { State.reset with trig := true, ph := 1 } := by
  exact ⟨⟨rfl, by decide⟩, rfl⟩

theorem test_witness_StepRunsTheDecodedOperations :
    (presented State.reset 0b100).rstAt 0 = true ∧ (presented (fallWait 999 30881) 0b001).rstAt 0 = false := by decide

/-- A state and a sample for every row of the table. -/
theorem test_witness_NextStateTable :
    ((presented State.reset 0b100).rstAt 0 = true) ∧
    ((presented State.reset 0b010).rstAt 0 = false ∧ (presented State.reset 0b010).startAt 0 = true ∧
      (presented State.reset 0b001).startAt 0 = false ∧ State.reset.st = 0) ∧
    ((0 : Phase).toNat ≤ 10 ∧ (10 : Phase).toNat ≤ 10 ∧ 11 ≤ (11 : Phase).toNat ∧ 11 ≤ (15 : Phase).toNat) ∧
    ((riseWait 999).st = 2 ∧ (presented (riseWait 999) 0b001).echoAt 0 = true ∧
      (presented (riseWait 999) 0).echoAt 0 = false ∧ (presented (riseWait 999) 0).deadlinePassed ∧
      ¬ (presented (riseWait 998) 0).deadlinePassed) ∧
    ((fallWait 999 30881).st = 4 ∧ (presented (fallWait 999 30881) 0).echoAt 0 = false ∧
      (presented (fallWait 999 30881) 1).echoAt 0 = true ∧ (presented (fallWait 999 30881) 1).deadlinePassed ∧
      ¬ (presented (fallWait 998 30880) 1).deadlinePassed) ∧
    (validResult.st = 5 ∧ (presented validResult 0b010).startAt 0 = true ∧ (presented validResult 0).startAt 0 = false) :=
  ⟨by decide, by decide, by decide, ⟨by decide, by decide, by decide, riseWait_expired, riseWait_waiting⟩,
    ⟨by decide, by decide, by decide, fallWait_expired, fallWait_waiting⟩, by decide⟩

theorem test_witness_TickInIdle : (presented State.reset 0b011).st = 0 ∧ (presented State.reset 0b011).rstAt 0 = false := by
  decide

theorem test_witness_TickInTriggering :
    let s (p : Phase) : State := presented { State.reset with st := 1, ph := p } 0b011
    (s 0).st = 1 ∧ (s 0).rstAt 0 = false ∧ (s 0).ph.toNat = 0 ∧ 1 ≤ (s 1).ph.toNat ∧ (s 10).ph.toNat ≤ 10 ∧
    11 ≤ (s 11).ph.toNat ∧ 11 ≤ (s 15).ph.toNat := by decide

theorem test_witness_TickInRiseWait :
    ((presented (riseWait 999) 1).st = 2 ∧ (presented (riseWait 999) 1).rstAt 0 = false ∧
      (presented (riseWait 999) 1).echoAt 0 = true) ∧
    ((presented (riseWait 999) 0).rstAt 0 = false ∧ (presented (riseWait 999) 0).echoAt 0 = false ∧
      (presented (riseWait 999) 0).deadlinePassed) ∧
    (presented (riseWait 998) 0).rstAt 0 = false ∧ (presented (riseWait 998) 0).echoAt 0 = false ∧
      ¬ (presented (riseWait 998) 0).deadlinePassed :=
  ⟨by decide, ⟨by decide, by decide, riseWait_expired⟩, by decide, by decide, riseWait_waiting⟩

theorem test_witness_TickInTiming :
    (presented { State.reset with st := 3, run := true } 0b010).st = 3 ∧
    (presented { State.reset with st := 3, run := true } 0b010).rstAt 0 = false := by decide

/-- The counts that this tick makes 118, 23529, 117 and 23530 among them. -/
theorem test_witness_TickInFallWait :
    ((presented (fallWait 0 117) 0).st = 4 ∧ (presented (fallWait 0 117) 0).rstAt 0 = false ∧
      (presented (fallWait 0 117) 0).echoAt 0 = false ∧ (presented (fallWait 0 117) 0).counted.cnt = 118 ∧
      (presented (fallWait 0 23528) 0).counted.cnt = 23529 ∧ (presented (fallWait 0 116) 0).counted.cnt = 117 ∧
      (presented (fallWait 0 23529) 0).counted.cnt = 23530) ∧
    ((presented (fallWait 999 30881) 1).rstAt 0 = false ∧ (presented (fallWait 999 30881) 1).echoAt 0 = true ∧
      (presented (fallWait 999 30881) 1).deadlinePassed) ∧
    (presented (fallWait 998 30880) 1).rstAt 0 = false ∧ (presented (fallWait 998 30880) 1).echoAt 0 = true ∧
      ¬ (presented (fallWait 998 30880) 1).deadlinePassed :=
  ⟨by decide, ⟨by decide, by decide, fallWait_expired⟩, by decide, by decide, fallWait_waiting⟩

theorem test_witness_TickInResolved : (presented validResult 0b010).st = 5 ∧ (presented validResult 0b010).rstAt 0 = false := by
  decide

theorem test_witness_TickInReservedCode :
    (presented { State.reset with st := 6 } 0b010).st = 6 ∧ (presented { State.reset with st := 7 } 0b011).st = 7 ∧
    (presented { State.reset with st := 6 } 0b010).rstAt 0 = false ∧
    (presented { State.reset with st := 7 } 0b011).rstAt 0 = false := by decide

theorem test_witness_PriorityOfOneTick :
    ((presented (riseWait 999) 0b101).rstAt 0 = true ∧ (presented (riseWait 999) 0b001).rstAt 0 = false ∧
      (presented (riseWait 999) 0b001).echoAt 0 = true ∧ (presented (fallWait 999 30881) 0b000).rstAt 0 = false ∧
      (presented (fallWait 999 30881) 0b000).echoAt 0 = false) ∧
    ((presented (riseWait 999) 0).echoAt 0 = false ∧ (presented (riseWait 999) 0).deadlinePassed) ∧
    ((presented (fallWait 999 30881) 1).echoAt 0 = true ∧ (presented (fallWait 999 30881) 1).deadlinePassed) ∧
    ¬ (presented (riseWait 998) 0).deadlinePassed ∧ ¬ (presented (fallWait 998 30880) 1).deadlinePassed :=
  ⟨by decide, ⟨by decide, riseWait_expired⟩, ⟨by decide, fallWait_expired⟩, riseWait_waiting, fallWait_waiting⟩

theorem test_witness_OutputsAreFunctionsOfTheRegisters :
    State.reset.st = 0 ∧ ({ State.reset with st := 6 } : State).st = 6 ∧ ({ State.reset with st := 7 } : State).st = 7 := by
  decide

theorem test_witness_FsmWordSelectsByItsPattern :
    (0 : Phase).toNat < 1 ∧ 1 ≤ (1 : Phase).toNat ∧ (10 : Phase).toNat ≤ 10 ∧ 11 ≤ (11 : Phase).toNat ∧
    11 ≤ (15 : Phase).toNat ∧ (presented (riseWait 999) 0).rstAt 0 = false ∧ (presented (riseWait 998) 0).rstAt 0 = false := by
  decide

theorem test_witness_DecodeAndEncodeAgree :
    Instr.wellFormed .ms .reset = true ∧ Instr.wellFormed .cnt .cntInc = true ∧ Instr.wellFormed .fsm .trigEnd = true ∧
    Instr.wellFormed .fsm .msDiv = false := by decide

theorem test_witness_TableWordsAreReadOrRejected : (511 < 512 ∧ 3 < 4) ∧ 512 ≤ 512 ∧ 4 ≤ 4 := by decide

theorem test_witness_PlacedWordIsFormedAndExecuted : (511 < 512 ∧ 510 < 512 ∧ 510 % 4 ≠ 3) ∧ 3 < 4 := by decide

theorem test_witness_ConversionIsExact : (0 : Count).toNat < (1 : Count).toNat ∧ (65534 : Count).toNat < (65535 : Count).toNat := by
  decide

theorem test_witness_PlausibleExactlyInRange :
    plausible 2000 = true ∧ plausible 400000 = true ∧ plausible (convert (fallWait 0 23530).cnt) = false := by decide

/-- The exact products next to the two bounds, each of which is within its own rounding error of itself. -/
theorem test_witness_IntegerFilterAgreesWithFloat :
    (|(1989 / 1000 : ℚ) - 17 * (117 : Count).toNat / 1000| ≤ 17 * (117 : Count).toNat / 1000 * (23 / 10 ^ 17)) ∧
    (|(400010 / 1000 : ℚ) - 17 * (23530 : Count).toNat / 1000| ≤ 17 * (23530 : Count).toNat / 1000 * (23 / 10 ^ 17)) := by
  rw [show (117 : Count).toNat = 117 from rfl, show (23530 : Count).toNat = 23530 from rfl]
  norm_num

theorem test_witness_DeadlineIsStrictAndWrapSafe : 65535 < 65536 ∧ (3 : StCode) ≠ 2 ∧ (3 : StCode) ≠ 4 := by decide

theorem test_witness_TickSourceCountsEveryTick :
    (withLines (riseWait 999) [⟨2000, 0⟩]).msDiv.toNat ≤ 999 ∧
    (∀ j, j < 2000 → (withLines (riseWait 999) [⟨2000, 0⟩]).rstAt j = false) ∧
    ∃ t, runTicks 2000 (withLines (riseWait 999) [⟨2000, 0⟩]) = .next t :=
  ⟨by decide, fun j hj => (line_bits (riseWait 999) 2000 false false [] j hj).1, runTicks_next _ _⟩

/-- The state after a `TRIG.END` that left the divider at `m`, with `echo` low. -/
def latched (m : Divider) : State := { State.reset with st := 2, msDiv := m }

theorem test_witness_DeadlineExpiresAtItsTick :
    ((latched 0).t0 = (latched 0).msNow ∧ (latched 0).msDiv.toNat ≤ 999 ∧ (latched 999).msDiv.toNat ≤ 999) ∧
    ((∀ i, i ≤ 30999 → (withLines (latched 0) [⟨31000, 0⟩]).rstAt i = false) ∧
      ∃ u, runTicks 30999 (withLines (latched 0) [⟨31000, 0⟩]) = .next u) ∧
    firstWrap (latched 0).msDiv.toNat + 30000 = 30999 + 1 ∧
    (withLines (latched 5) [⟨1, 0b100⟩, ⟨5, 0⟩]).rstAt 0 = true ∧
    ∀ i, 1 ≤ i → i ≤ 5 → (withLines (latched 5) [⟨1, 0b100⟩, ⟨5, 0⟩]).rstAt i = false := by
  refine ⟨by decide, ⟨fun i hi => (line_bits (latched 0) 31000 false false [] i (by omega)).1, runTicks_next _ _⟩, by decide,
    by decide, fun i h1 h5 => ?_⟩
  have h : i = 1 ∨ i = 2 ∨ i = 3 ∨ i = 4 ∨ i = 5 := by omega
  obtain rfl | rfl | rfl | rfl | rfl := h <;> decide

/-- A launch state other than reset: program P7's. -/
def launched : State := { State.reset with msNow := 65520, msDiv := 990 }

theorem launched_isLaunch : launched.isLaunch := by unfold State.isLaunch; decide

theorem test_witness_LaunchStatesMeetTheInvariant :
    launched.isLaunch ∧ (presented (fallWait 999 30881) 0b100).rstAt 0 = true ∧
    ∃ t, step (presented (fallWait 999 30881) 0b100) = .next t :=
  ⟨launched_isLaunch, by decide, _, step_eq _⟩

/-- A plausible and an implausible fall wait of the invariant, and one at its very end. -/
theorem fallWait_inv (d : Divider) (c : Count) (hd : d.toNat ≤ 999) (h1 : c.toNat ≤ 30000 + d.toNat + 1)
    (h2 : 30000 + d.toNat ≤ c.toNat + 998) : (fallWait d c).Inv := by
  refine ⟨?_, fun _ => ⟨by show (elapsedMs 30 0).toNat ≤ 30; decide, ?_, ?_⟩⟩
  · constructor <;> simp [fallWait, State.busy, State.done, busyIn, doneIn] <;> omega
  · show c.toNat ≤ 1000 * (elapsedMs 30 0).toNat + d.toNat + 1
    rw [show (elapsedMs 30 0).toNat = 30 from rfl]; omega
  · show 1000 * (elapsedMs 30 0).toNat + d.toNat ≤ c.toNat + 998
    rw [show (elapsedMs 30 0).toNat = 30 from rfl]; omega

theorem fallWait_lines_inv (d : Divider) (c : Count) (ls : List StimLine) (h : (fallWait d c).Inv) :
    (withLines (fallWait d c) ls).Inv := ⟨⟨h.1.1, h.1.2, h.1.3, h.1.4, h.1.5, h.1.6, h.1.7, h.1.8, h.1.9, h.1.10, h.1.11,
      h.1.12, h.1.13, h.1.14, h.1.15⟩, h.2⟩

theorem test_witness_StepKeepsTheInvariant :
    (withLines (fallWait 999 30881) [⟨1, 1⟩]).Inv ∧ ∃ t, step (withLines (fallWait 999 30881) [⟨1, 1⟩]) = .next t :=
  ⟨fallWait_lines_inv _ _ _ (fallWait_inv _ _ (by decide) (by decide) (by decide)), _, step_eq _⟩

theorem test_witness_InvariantsHoldOnEveryRun :
    (launched.isLaunch ∧ ∃ t, runTicks 31013 launched = .next t) ∧
    ((presented State.reset 0b100).rstAt 0 = true ∧ 1 ≤ 1 ∧ ∃ t, runTicks 1 (presented State.reset 0b100) = .next t) ∧
    (withLines (fallWait 999 30881) [⟨1, 1⟩]).Inv ∧
    (withLines (fallWait 999 30881) [⟨1, 1⟩]).fsmOp = some .fallTimeout :=
  ⟨⟨launched_isLaunch, runTicks_next _ _⟩, ⟨by decide, le_refl 1, runTicks_next _ _⟩,
    fallWait_lines_inv _ _ _ (fallWait_inv _ _ (by decide) (by decide) (by decide)), by decide⟩

theorem validResult_inv (ls : List StimLine) : (withLines validResult ls).Inv := by
  refine ⟨?_, fun h => absurd h (by simp [withLines, validResult])⟩
  constructor <;> simp [withLines, validResult, State.busy, State.done, busyIn, doneIn]

theorem test_witness_ValidExactlyWhenDistanceNonzero :
    (withLines validResult []).Inv ∧ (withLines validResult []).outputs.validO = true := ⟨validResult_inv [], rfl⟩

/-- A fall wait that no deadline has come near, with the count `c`. -/
def youngWait (c : Count) (d : Divider) (n : Millis) (iv : InputVector) : State :=
  { State.reset with st := 4, cnt := c, run := true, msDiv := d, msNow := n, lines := [⟨1, iv⟩] }

theorem youngWait_inv : (youngWait 117 500 0 0).Inv ∧ (youngWait 116 500 0 0).Inv := by
  refine ⟨⟨?_, fun _ => by decide⟩, ⟨?_, fun _ => by decide⟩⟩ <;>
    constructor <;> simp [youngWait, State.busy, State.done, busyIn, doneIn]

theorem riseWait_inv : (presented (riseWait 999) 0).Inv := by
  refine ⟨?_, fun h => absurd h (by simp [presented, riseWait])⟩
  constructor <;> simp [presented, riseWait, State.busy, State.done, busyIn, doneIn]

/-- One state for each of the four results: the counts 118 and 117, and the two timeouts. -/
theorem test_witness_CyclesEndInFourKindsOfResult :
    (∀ s ∈ [youngWait 117 500 0 0, youngWait 116 500 0 0, presented (riseWait 999) 0,
      withLines (fallWait 999 30881) [⟨1, 1⟩]], s.Inv ∧ s.busy = true ∧ ∃ t, step s = .next t ∧ t.done = true) := by
  intro s hs
  simp only [List.mem_cons, List.not_mem_nil, or_false] at hs
  obtain rfl | rfl | rfl | rfl := hs
  · exact ⟨youngWait_inv.1, by decide, _, step_eq _, by decide⟩
  · exact ⟨youngWait_inv.2, by decide, _, step_eq _, by decide⟩
  · exact ⟨riseWait_inv, by decide, _, step_eq _, by decide⟩
  · exact ⟨fallWait_lines_inv _ _ _ (fallWait_inv _ _ (by decide) (by decide) (by decide)), by decide, _, step_eq _,
      by decide⟩

theorem test_witness_ResultIsClearWhileBusy :
    (presented (riseWait 999) 0).Inv ∧ (presented (riseWait 999) 0).busy = true := ⟨riseWait_inv, by decide⟩

theorem test_witness_ResolvedResultIsStable :
    ((withLines validResult [⟨100, 1⟩]).Inv ∧ (withLines validResult [⟨100, 1⟩]).done = true ∧
      (∀ j, j < 100 → (withLines validResult [⟨100, 1⟩]).startAt j = false ∧
        (withLines validResult [⟨100, 1⟩]).rstAt j = false) ∧
      ∃ t, runTicks 100 (withLines validResult [⟨100, 1⟩]) = .next t) ∧
    (presented validResult 0b010).done = true ∧ (presented validResult 0b010).acceptsStart ∧
    ∃ t, step (presented validResult 0b010) = .next t :=
  ⟨⟨validResult_inv _, by decide, fun j hj => ⟨(line_bits validResult 100 false true [] j hj).2.1,
      (line_bits validResult 100 false true [] j hj).1⟩, runTicks_next _ _⟩,
    by decide, ⟨Or.inr rfl, by decide, by decide⟩, _, step_eq _⟩

/-- The two samples differ in `start`; a state of each of the four busy codes. -/
theorem test_witness_StartIsIgnoredWhileBusy :
    (∀ c ∈ [(1 : StCode), 2, 3, 4],
      sameRegisters (presented { State.reset with st := c } 0b000) (presented { State.reset with st := c } 0b010) ∧
      (presented { State.reset with st := c } 0b000).busy = true ∧
      (presented { State.reset with st := c } 0b000).rstAt 0 = (presented { State.reset with st := c } 0b010).rstAt 0 ∧
      (presented { State.reset with st := c } 0b000).echoAt 0 = (presented { State.reset with st := c } 0b010).echoAt 0) ∧
    (presented validResult 0b010).acceptsStart ∧ (presented State.reset 0b010).acceptsStart := by
  refine ⟨by decide, ⟨Or.inr rfl, by decide, by decide⟩, ⟨Or.inl rfl, by decide, by decide⟩⟩

/-- The two samples differ in `echo`; a state of each of the four codes. -/
theorem test_witness_EchoIsIgnoredOutsideTheWaits :
    (∀ c ∈ [(0 : StCode), 1, 3, 5],
      sameRegisters (presented { State.reset with st := c } 0b000) (presented { State.reset with st := c } 0b001) ∧
      (c = 0 ∨ c = 1 ∨ c = 3 ∨ c = 5) ∧
      (presented { State.reset with st := c } 0b000).rstAt 0 = (presented { State.reset with st := c } 0b001).rstAt 0 ∧
      (presented { State.reset with st := c } 0b000).startAt 0 = (presented { State.reset with st := c } 0b001).startAt 0) ∧
    (presented (riseWait 999) 1).st = 2 ∧ (presented (riseWait 999) 1).rstAt 0 = false ∧
    (presented (riseWait 999) 1).echoAt 0 = true := by decide

/-- A start sampled for one tick and then never again: the cycle runs, and no start is accepted after it. -/
theorem test_witness_TriggerTimeline :
    (withLines validResult [⟨1, 2⟩, ⟨99, 0⟩]).acceptsStart ∧
    (∀ j, j ≤ 12 → (withLines validResult [⟨1, 2⟩, ⟨99, 0⟩]).rstAt j = false) ∧ 13 ≤ 50 ∧
    (∃ t, runTicks 50 (withLines validResult [⟨1, 2⟩, ⟨99, 0⟩]) = .next t) ∧
    ∀ (j : Nat) (u : State), 13 ≤ j → j + 2 < 50 → runTicks j (withLines validResult [⟨1, 2⟩, ⟨99, 0⟩]) = .next u →
      ¬ u.acceptsStart := by
  have later : ∀ j, j < 99 → _ := fun j hj => second_line_bits validResult 1 99 true false false false [] j hj
  refine ⟨⟨Or.inr rfl, by decide, by decide⟩, fun j hj => ?_, by decide, runTicks_next _ _, fun j u h1 h2 h hacc => ?_⟩
  · cases j with
    | zero => decide
    | succ j => rw [Nat.add_comm]; exact (later j (by omega)).1
  · have e : u.startAt 0 = (withLines validResult [⟨1, 2⟩, ⟨99, 0⟩]).startAt (1 + (j - 1)) := by
      unfold State.startAt; rw [inputAt_runTicks h]; congr 2; omega
    have h0 := (later (j - 1) (by omega)).2.1
    have h1 := hacc.2.1
    rw [e] at h1
    exact absurd (h0.symm.trans h1) (by decide)

/-- The boundary phases 0 and 999; the edge at the very tick of the timeout. -/
theorem test_witness_WaitsLastExactlyToTheirDeadline :
    (0 ≤ 999 ∧ 999 ≤ 999) ∧
    ((latched 0).st = 2 ∧ (latched 0).t0 = (latched 0).msNow ∧ (latched 0).msDiv.toNat ≤ 999 ∧ (latched 0).run = false ∧
      (latched 999).msDiv.toNat ≤ 999 ∧ firstWrap (latched 0).msDiv.toNat + 30000 = 31000) ∧
    (∀ j, j < 31000 → (withLines (latched 0) [⟨31000, 0⟩]).rstAt j = false ∧
      (withLines (latched 0) [⟨31000, 0⟩]).echoAt j = false) ∧
    ((∀ j, j < 30999 → (withLines (latched 0) [⟨30999, 0⟩, ⟨1, 1⟩]).echoAt j = false) ∧
      (withLines (latched 0) [⟨30999, 0⟩, ⟨1, 1⟩]).rstAt 30999 = false ∧
      (withLines (latched 0) [⟨30999, 0⟩, ⟨1, 1⟩]).echoAt 30999 = true) ∧
    (let s : State := { State.reset with st := 4, run := true, cnt := 1, msDiv := 0 };
      (s.st = 4 ∧ s.t0 = s.msNow ∧ s.msDiv.toNat ≤ 999 ∧ s.run = true ∧ s.cnt = 1) ∧
      (∀ j, j < 31000 → (withLines s [⟨31000, 1⟩]).rstAt j = false ∧ (withLines s [⟨31000, 1⟩]).echoAt j = true) ∧
      (∀ j, j < 30999 → (withLines s [⟨30999, 1⟩, ⟨1, 0⟩]).echoAt j = true) ∧
      (withLines s [⟨30999, 1⟩, ⟨1, 0⟩]).rstAt 30999 = false ∧ (withLines s [⟨30999, 1⟩, ⟨1, 0⟩]).echoAt 30999 = false) := by
  refine ⟨by decide, by decide, fun j hj => ?_, ⟨fun j hj => ?_, ?_, ?_⟩, by decide, fun j hj => ?_, fun j hj => ?_, ?_, ?_⟩
  · exact ⟨(line_bits _ 31000 false false [] j hj).1, (line_bits _ 31000 false false [] j hj).2.2⟩
  · exact (line_bits _ 30999 false false [⟨1, 1⟩] j hj).2.2
  · exact (second_line_bits _ 30999 1 false false false true [] 0 (by decide)).1
  · exact (second_line_bits _ 30999 1 false false false true [] 0 (by decide)).2.2
  · exact ⟨(line_bits _ 31000 false true [] j hj).1, (line_bits _ 31000 false true [] j hj).2.2⟩
  · exact (line_bits _ 30999 false true [⟨1, 0⟩] j hj).2.2
  · exact (second_line_bits _ 30999 1 false true false false [] 0 (by decide)).1
  · exact (second_line_bits _ 30999 1 false true false false [] 0 (by decide)).2.2

/-- After a rising edge at phase 0 the two ticks leave the divider at 2, so the last fall tick that counts is 30999. -/
theorem latched_two_ticks :
    firstWrap (tickAfter (tickAfter (withLines (latched 0) [⟨30999, 1⟩, ⟨1, 0⟩]))).msDiv.toNat + 30001 = 30999 := by decide

/-- What a pulse of `f` high samples and then a low one presents. -/
theorem pulse_bits (f : Nat) (h2 : 2 ≤ f) :
    let s := withLines (latched 0) [⟨f, 1⟩, ⟨1, 0⟩]
    s.st = 2 ∧ s.echoAt 0 = true ∧ (∀ j, j ≤ f → s.rstAt j = false) ∧ (∀ j, 2 ≤ j → j < f → s.echoAt j = true) ∧
    s.echoAt f = false := by
  have last := second_line_bits (latched 0) f 1 false true false false [] 0 (by decide)
  refine ⟨rfl, (line_bits _ f false true _ 0 (by omega)).2.2, fun j hj => ?_, fun j _ hj => (line_bits _ f false true _ j hj).2.2,
    last.2.2⟩
  by_cases h : j < f
  · exact (line_bits _ f false true _ j h).1
  · rw [show j = f + 0 by omega]; exact last.1

/-- Widths at the boundaries: 117 and 23530 (the sentinel), 118 and 23529 (valid), and 30999, the last tick before the
second deadline, `k + 30001`. -/
theorem test_witness_PulseWidthIsTheTickCount :
    ∀ f ∈ [117, 118, 23529, 23530, 30999],
      let s := withLines (latched 0) [⟨f, 1⟩, ⟨1, 0⟩]
      (s.st = 2 ∧ s.echoAt 0 = true ∧ (∀ j, j ≤ f → s.rstAt j = false) ∧ (∀ j, 2 ≤ j → j < f → s.echoAt j = true) ∧
        s.echoAt f = false) ∧
      2 ≤ f ∧ ∃ u, runTicks 2 s = .next u ∧ f ≤ firstWrap u.msDiv.toNat + 30001 := by
  intro f hf
  have h : 2 ≤ f ∧ (f ≤ 30001 ∨ f = 30999) := by
    simp only [List.mem_cons, List.not_mem_nil, or_false] at hf
    omega
  refine ⟨pulse_bits f h.1, h.1, tickAfter (tickAfter (withLines (latched 0) [⟨f, 1⟩, ⟨1, 0⟩])),
    by simp only [runTicks_succ, runTicks_zero], ?_⟩
  obtain h | rfl := h.2
  · omega
  · exact latched_two_ticks.ge

/-- The smallest `f`: a pulse of one high sample, and one of two. -/
theorem test_witness_PulseWidthIsTheTickCount_two :
    ∀ ls ∈ [([⟨1, 1⟩, ⟨2, 0⟩] : List StimLine), [⟨2, 1⟩, ⟨1, 0⟩]],
      (withLines (latched 0) ls).st = 2 ∧ (withLines (latched 0) ls).echoAt 0 = true ∧
      (∀ j ∈ [0, 1, 2], (withLines (latched 0) ls).rstAt j = false) ∧ (withLines (latched 0) ls).echoAt 2 = false ∧
      ∃ u, runTicks 2 (withLines (latched 0) ls) = .next u ∧ 2 ≤ firstWrap u.msDiv.toNat + 30001 := by
  intro ls hls
  obtain ⟨u, hu⟩ := runTicks_next 2 (withLines (latched 0) ls)
  simp only [List.mem_cons, List.not_mem_nil, or_false] at hls
  obtain rfl | rfl := hls <;> exact ⟨rfl, by decide, by decide, by decide, u, hu, by omega⟩

/-- A start with no reset after it for ever so long, and one with a reset in the middle of the trigger pulse. -/
theorem test_witness_EveryCycleResolvesInTime :
    ((withLines validResult [⟨62013, 0b011⟩]).acceptsStart ∧
      ∀ j, j ≤ 62012 → (withLines validResult [⟨62013, 0b011⟩]).rstAt j = false) ∧
    (withLines State.reset [⟨1, 0b010⟩, ⟨4, 0⟩, ⟨1, 0b100⟩]).acceptsStart ∧
    (withLines State.reset [⟨1, 0b010⟩, ⟨4, 0⟩, ⟨1, 0b100⟩]).rstAt 5 = true :=
  ⟨⟨⟨Or.inr rfl, by decide, by decide⟩, fun j hj => (line_bits validResult 62013 true true [] j (by omega)).1⟩,
    ⟨Or.inl rfl, by decide, by decide⟩, by decide⟩

theorem test_witness_BlockSettlesFromAnyRegisters :
    ∀ j, j < 62012 → (withLines { State.reset with st := 1, ph := 15, trig := true, t0 := 7 } [⟨62012, 1⟩]).rstAt j = false :=
  fun j hj => (line_bits _ 62012 false true [] j hj).1

/-- `MEASURE 0 2` and `MEASURE 30000 30002`, the boundary values. -/
theorem test_witness_MeasureLineIsOneWholeCycle :
    (State.reset.st = 0 ∧ validResult.st = 5) ∧
    (withLines State.reset (encodeLines (expandPseudo (.measure 0 2)) ++ [⟨7, 0⟩])).lines =
      encodeLines (expandPseudo (.measure 0 2)) ++ [⟨7, 0⟩] ∧
    0 ≤ 30000 ∧ 2 ≤ 2 ∧ 30000 ≤ 30000 ∧ 30002 ≤ 30002 := by decide

/-- The boundary 12 from an unreachable phase, with no start presented; and a high trigger line that the code 0 keeps. -/
theorem test_witness_TriggerLineSettles :
    let s := withLines { State.reset with st := 1, ph := 15, trig := true } [⟨12, 1⟩]
    (s.st = 1 ∧ 12 ≤ 12 ∧ (∃ t, runTicks 12 s = .next t) ∧
      ∀ (j : Nat) (u : State), j + 2 < 12 → runTicks j s = .next u → ¬ u.acceptsStart) ∧
    (presented { State.reset with trig := true } 0).trig = true ∧ (presented { State.reset with trig := true } 0).st = 0 := by
  refine ⟨⟨rfl, by decide, runTicks_next _ _, fun j u hj hu hacc => ?_⟩, rfl, rfl⟩
  have h : u.startAt 0 = false := by
    unfold State.startAt
    rw [inputAt_runTicks hu]
    exact (line_bits _ 12 false true [] j (by omega)).2.1
  exact absurd (h.symm.trans hacc.2.1) (by decide)

/-- The dividers 998, 999 and 1023, and the corner of the second clause. -/
theorem test_witness_DeadlineExpiresFromAnyRegisters :
    (∀ d ∈ [(998 : Divider), 999, 1023], ∀ j, j ≤ 31000 → (withLines (riseWait d) [⟨31001, 0⟩]).rstAt j = false) ∧
    (let s := withLines { riseWait 999 with t0 := 38 } [⟨31001, 0⟩];
      s.msDiv.toNat = 999 ∧ s.t0 = s.msNow + 1 ∧ (∀ j, j ≤ 31000 → s.rstAt j = false) ∧ ∃ u, runTicks 31000 s = .next u) :=
  ⟨fun d _ j hj => (line_bits (riseWait d) 31001 false false [] j (by omega)).1,
    by decide, by decide, fun j hj => (line_bits _ 31001 false false [] j (by omega)).1, runTicks_next _ _⟩

end Sys2Proof.Tests
end

section
/-! SUPPORT. What each operation leaves, as the function `after`: one equation per operation, and for each register the
operations that leave it alone (the write table of 10_state.md R26 read as a frame). -/

namespace Sys2Proof.Machine

/-! ## One equation per operation -/

@[simp] theorem after_reset (s : State) : after .reset s = clearAll s := rfl
@[simp] theorem after_msDiv (s : State) : after .msDiv s = advanceDivider s := rfl
@[simp] theorem after_msWrap (s : State) : after .msWrap s = advanceMillis s := rfl
@[simp] theorem after_cntHold (s : State) : after .cntHold s = s := rfl
@[simp] theorem after_cntInc (s : State) : after .cntInc s = countMicro s := rfl
@[simp] theorem after_idleHold (s : State) : after .idleHold s = s := rfl
@[simp] theorem after_idleStart (s : State) : after .idleStart s = beginCycle s := rfl
@[simp] theorem after_trigLow (s : State) : after .trigLow s = driveTrigger false s := rfl
@[simp] theorem after_trigHigh (s : State) : after .trigHigh s = driveTrigger true s := rfl
@[simp] theorem after_trigEnd (s : State) :
    after .trigEnd s = goTo St.waitEchoRise (latchDeadline (restTrigger s)) := rfl
@[simp] theorem after_risePoll (s : State) : after .risePoll s = s := rfl
@[simp] theorem after_riseEdge (s : State) : after .riseEdge s = goTo St.timing (startCounter s) := rfl
@[simp] theorem after_riseTimeout (s : State) : after .riseTimeout s = resolveInvalid Cause.timeoutRise s := rfl
@[simp] theorem after_timingArm (s : State) : after .timingArm s = goTo St.waitEchoFall (latchDeadline s) := rfl
@[simp] theorem after_fallPoll (s : State) : after .fallPoll s = s := rfl
@[simp] theorem after_fallEdge (s : State) :
    after .fallEdge s = resolveMeasured (convert s.cnt) (stopCounter s) := rfl
@[simp] theorem after_fallTimeout (s : State) :
    after .fallTimeout s = resolveInvalid Cause.timeoutFall (stopCounter s) := rfl
@[simp] theorem after_resHold (s : State) : after .resHold s = s := rfl
@[simp] theorem after_resStart (s : State) : after .resStart s = beginCycle s := rfl
@[simp] theorem after_badRecover (s : State) : after .badRecover s = recoverIdle s := rfl

/-! ## `resolveMeasured` (R95): both outcomes enter `RESOLVED` and write the result registers only -/

@[simp] theorem resolveMeasured_st (raw : RawDist) (s : State) : (resolveMeasured raw s).st = St.resolved := by
  unfold resolveMeasured; split <;> rfl
@[simp] theorem resolveMeasured_ph (raw : RawDist) (s : State) : (resolveMeasured raw s).ph = s.ph := by
  unfold resolveMeasured; split <;> rfl
@[simp] theorem resolveMeasured_trig (raw : RawDist) (s : State) : (resolveMeasured raw s).trig = s.trig := by
  unfold resolveMeasured; split <;> rfl
@[simp] theorem resolveMeasured_cnt (raw : RawDist) (s : State) : (resolveMeasured raw s).cnt = s.cnt := by
  unfold resolveMeasured; split <;> rfl
@[simp] theorem resolveMeasured_run (raw : RawDist) (s : State) : (resolveMeasured raw s).run = s.run := by
  unfold resolveMeasured; split <;> rfl
@[simp] theorem resolveMeasured_t0 (raw : RawDist) (s : State) : (resolveMeasured raw s).t0 = s.t0 := by
  unfold resolveMeasured; split <;> rfl
@[simp] theorem resolveMeasured_msDiv (raw : RawDist) (s : State) : (resolveMeasured raw s).msDiv = s.msDiv := by
  unfold resolveMeasured; split <;> rfl
@[simp] theorem resolveMeasured_msNow (raw : RawDist) (s : State) : (resolveMeasured raw s).msNow = s.msNow := by
  unfold resolveMeasured; split <;> rfl

/-- R101: the counts whose product passes the filter. -/
theorem plausible_convert_iff (d : Count) : plausible (convert d) = true ↔ 118 ≤ d.toNat ∧ d.toNat ≤ 23529 := by
  rw [plausible_iff, convert_toNat]; omega

/-- R100, R101: 19 bits lose nothing of a product that passes the filter. -/
theorem toNat_setWidth_convert {d : Count} (h : d.toNat ≤ 23529) :
    ((convert d).setWidth 19).toNat = 17 * d.toNat := by
  rw [BitVec.toNat_setWidth, convert_toNat]; omega

/-! ## The frame of each register (R26) -/

theorem after_st_of_not_writer {i : Instr} (s : State)
    (h : i ∉ [Instr.reset, .idleStart, .trigEnd, .riseEdge, .riseTimeout, .timingArm, .fallEdge, .fallTimeout,
      .resStart, .badRecover]) : (after i s).st = s.st := by
  revert h; cases i <;> simp

theorem after_trigger_of_not_writer {i : Instr} (s : State)
    (h : i ∉ [Instr.reset, .idleStart, .trigLow, .trigHigh, .trigEnd, .resStart, .badRecover]) :
    (after i s).ph = s.ph ∧ (after i s).trig = s.trig := by
  revert h; cases i <;> simp [resolveInvalid_eq]

/-- R83: of all operations only `TRIG.HIGH` raises the trigger line. -/
theorem after_trig_of_ne_trigHigh {i : Instr} {s : State} (h : i ≠ .trigHigh) (hs : s.trig = false) :
    (after i s).trig = false := by
  revert h; cases i <;> simp [resolveInvalid_eq, beginCycle_eq, recoverIdle_eq, hs]

theorem after_cnt_of_not_writer {i : Instr} (s : State) (h : i ∉ [Instr.reset, .cntInc, .riseEdge]) :
    (after i s).cnt = s.cnt := by
  revert h; cases i <;> simp [resolveInvalid_eq, beginCycle_eq, recoverIdle_eq]

theorem after_run_of_not_writer {i : Instr} (s : State)
    (h : i ∉ [Instr.reset, .idleStart, .riseEdge, .fallEdge, .fallTimeout, .resStart, .badRecover]) :
    (after i s).run = s.run := by
  revert h; cases i <;> simp [resolveInvalid_eq]

theorem after_t0_of_not_writer {i : Instr} (s : State) (h : i ∉ [Instr.reset, .trigEnd, .timingArm]) :
    (after i s).t0 = s.t0 := by
  revert h; cases i <;> simp [resolveInvalid_eq, beginCycle_eq, recoverIdle_eq]

theorem after_msDiv_of_not_writer {i : Instr} (s : State) (h : i ∉ [Instr.reset, .msDiv, .msWrap]) :
    (after i s).msDiv = s.msDiv := by
  revert h; cases i <;> simp [resolveInvalid_eq, beginCycle_eq, recoverIdle_eq]

theorem after_msNow_of_not_writer {i : Instr} (s : State) (h : i ∉ [Instr.reset, .msWrap]) :
    (after i s).msNow = s.msNow := by
  revert h; cases i <;> simp [resolveInvalid_eq, beginCycle_eq, recoverIdle_eq]

theorem after_result_of_not_writer {i : Instr} (s : State)
    (h : i ∉ [Instr.reset, .idleStart, .riseTimeout, .fallEdge, .fallTimeout, .resStart, .badRecover]) :
    (after i s).dist = s.dist ∧ (after i s).valid = s.valid ∧ (after i s).cause = s.cause := by
  revert h; cases i <;> simp

/-- The FSM unit of a tick without reset runs none of the operations of the other units. -/
theorem fsmSelect_not_mem_units {iv : InputVector} (hr : ivRst iv = false) (u : State) :
    fsmSelect iv u ∉ [Instr.reset, .msDiv, .msWrap] := by
  unfold fsmSelect selectFsm
  rw [hr]
  repeat' split
  all_goals simp at *

end Sys2Proof.Machine
end

section
/-! SUPPORT. One tick by state code: which of the operations' results it leaves, on top of what the counting units have
left (`State.counted`). -/

namespace Sys2Proof.Machine

/-! ## What the counting units leave -/

@[simp] theorem State.counted_st (s : State) : s.counted.st = s.st := rfl
@[simp] theorem State.counted_ph (s : State) : s.counted.ph = s.ph := rfl
@[simp] theorem State.counted_trig (s : State) : s.counted.trig = s.trig := rfl
@[simp] theorem State.counted_run (s : State) : s.counted.run = s.run := rfl
@[simp] theorem State.counted_t0 (s : State) : s.counted.t0 = s.t0 := rfl
@[simp] theorem State.counted_dist (s : State) : s.counted.dist = s.dist := rfl
@[simp] theorem State.counted_valid (s : State) : s.counted.valid = s.valid := rfl
@[simp] theorem State.counted_cause (s : State) : s.counted.cause = s.cause := rfl

theorem State.counted_cnt_of_stopped {s : State} (h : s.run = false) : s.counted.cnt = s.cnt := by
  simp [State.counted, h]

theorem State.counted_cnt_of_running {s : State} (h : s.run = true) : s.counted.cnt = s.cnt + 1 := by
  simp [State.counted, h]

theorem State.counted_cnt_toNat {s : State} (h : s.run = true) (hc : s.cnt.toNat ≤ 31000) :
    s.counted.cnt.toNat = s.cnt.toNat + 1 := by
  rw [State.counted_cnt_of_running h]; bv_omega

/-- R17: the divider stays below 1000. -/
theorem State.counted_msDiv_le {s : State} (h : s.msDiv.toNat ≤ 999) : s.counted.msDiv.toNat ≤ 999 := by
  unfold State.counted
  by_cases hw : 999 ≤ s.msDiv.toNat
  · simp [hw]
  · simp only [hw, if_false]; bv_omega

/-- R110, R111: seen from any instant `t0`, the tick source and its divider together advance by one at every tick. -/
theorem State.counted_clock {s : State} (h : s.msDiv.toNat ≤ 999) (t0 : Millis) :
    1000 * (s.counted.msNow - t0).toNat + s.counted.msDiv.toNat =
      (1000 * (s.msNow - t0).toNat + s.msDiv.toNat + 1) % 65536000 := by
  unfold State.counted
  by_cases hw : 999 ≤ s.msDiv.toNat
  · simp only [hw, if_true]; bv_omega
  · simp only [hw, if_false]; bv_omega

/-! ## The tick by state code -/

theorem tickAfter_of_rst {s : State} (h : ivRst s.input = true) : tickAfter s = clearAll s.takeInput := by
  simp [tickAfter, h]

theorem tickAfter_of_run {s : State} (h : ivRst s.input = false) :
    tickAfter s = after (fsmSelect s.input s.counted) s.counted := by
  simp [tickAfter, h, cntNext_msNext_eq]

/-- R80, R81. -/
theorem tickAfter_of_idle {s : State} (hr : ivRst s.input = false) (h : s.st = St.idle) :
    tickAfter s = if ivStart s.input then beginCycle s.counted else s.counted := by
  rw [tickAfter_of_run hr]
  cases ha : ivStart s.input <;> simp [fsmSelect, selectFsm, hr, h, ha]

/-- R82, R83, R84. -/
theorem tickAfter_of_triggering {s : State} (hr : ivRst s.input = false) (h : s.st = St.triggering) :
    tickAfter s =
      if s.ph.toNat = 0 then driveTrigger false s.counted
      else if s.ph.toNat ≤ 10 then driveTrigger true s.counted
      else goTo St.waitEchoRise (latchDeadline (restTrigger s.counted)) := by
  rw [tickAfter_of_run hr]
  by_cases h0 : s.ph.toNat = 0
  · simp [fsmSelect, selectFsm, hr, h, phaseClass_low (ph := s.ph) (by omega), h0]
  · by_cases h10 : s.ph.toNat ≤ 10
    · simp [fsmSelect, selectFsm, hr, h, phaseClass_high (ph := s.ph) (by omega) h10, h0, h10]
    · simp [fsmSelect, selectFsm, hr, h, phaseClass_ended (ph := s.ph) (by omega), h0, h10]

/-- R90, R91, R92: the edge comes before the deadline. -/
theorem tickAfter_of_waitEchoRise {s : State} (hr : ivRst s.input = false) (h : s.st = St.waitEchoRise) :
    tickAfter s =
      if ivEcho s.input then goTo St.timing (startCounter s.counted)
      else if expired s.counted.msNow s.t0 then resolveInvalid Cause.timeoutRise s.counted
      else s.counted := by
  rw [tickAfter_of_run hr]
  cases he : ivEcho s.input <;> cases hx : expired s.counted.msNow s.t0 <;>
    simp [fsmSelect, selectFsm, hr, h, he, hx]

/-- R93. -/
theorem tickAfter_of_timing {s : State} (hr : ivRst s.input = false) (h : s.st = St.timing) :
    tickAfter s = goTo St.waitEchoFall (latchDeadline s.counted) := by
  rw [tickAfter_of_run hr]
  simp [fsmSelect, selectFsm, hr, h]

/-- R94, R95, R96: the edge comes before the deadline. -/
theorem tickAfter_of_waitEchoFall {s : State} (hr : ivRst s.input = false) (h : s.st = St.waitEchoFall) :
    tickAfter s =
      if ivEcho s.input then
        if expired s.counted.msNow s.t0 then resolveInvalid Cause.timeoutFall (stopCounter s.counted)
        else s.counted
      else resolveMeasured (convert s.counted.cnt) (stopCounter s.counted) := by
  rw [tickAfter_of_run hr]
  cases he : ivEcho s.input <;> cases hx : expired s.counted.msNow s.t0 <;>
    simp [fsmSelect, selectFsm, hr, h, he, hx]

/-- R104, R105. -/
theorem tickAfter_of_resolved {s : State} (hr : ivRst s.input = false) (h : s.st = St.resolved) :
    tickAfter s = if ivStart s.input then beginCycle s.counted else s.counted := by
  rw [tickAfter_of_run hr]
  cases ha : ivStart s.input <;> simp [fsmSelect, selectFsm, hr, h, ha]

/-- `FALL.TIMEOUT` is selected only in the fall wait, with the deadline expired and no reset. -/
theorem selectFsm_eq_fallTimeout {r a e x : Bit} {c : StCode} {p : PhaseClass}
    (h : selectFsm r c a e x p = .fallTimeout) : r = false ∧ c = St.waitEchoFall ∧ e = true ∧ x = true := by
  unfold selectFsm at h
  repeat' split at h
  all_goals simp_all

end Sys2Proof.Machine
end

section
/-! SUPPORT. The invariant of 10_state.md R27 read state code by state code, and the run that keeps it. -/

namespace Sys2Proof.Machine

/-! ## The invariant by state code -/

/-- The trigger line low, the phase counter and the microsecond counter at rest (V2, V3, V4). A conjunction of register
equations, so that it carries over by definition to a state with the same three registers. -/
def State.Resting (s : State) : Prop := s.ph = 0 ∧ s.trig = false ∧ s.run = false

theorem State.Resting.phase {s : State} (h : s.Resting) : s.ph = 0 := h.1
theorem State.Resting.line {s : State} (h : s.Resting) : s.trig = false := h.2.1
theorem State.Resting.stopped {s : State} (h : s.Resting) : s.run = false := h.2.2

/-- The result registers as a start leaves them (V5, V6, V7). -/
def State.ResultClear (s : State) : Prop := s.dist = 0 ∧ s.valid = false ∧ s.cause = Cause.none

/-- The result registers as the valid outcome leaves them (V5). -/
structure State.ResultValid (s : State) : Prop where
  valid : s.valid = true
  noCause : s.cause = Cause.none
  product : s.dist.toNat = 17 * s.cnt.toNat
  low : 118 ≤ s.cnt.toNat
  high : s.cnt.toNat ≤ 23529

/-- The zero/invalid sentinel, with any cause (V6). -/
structure State.ResultSentinel (s : State) : Prop where
  dist : s.dist = 0
  invalid : s.valid = false

/-- What V1 to V10 and the fall wait's bookkeeping leave possible at each state code, beside the bounds of the divider and
the counter. -/
inductive State.Shape (s : State) : Prop
  | idle (code : s.st = St.idle) (rest : s.Resting) (clear : s.ResultClear)
  | triggering (code : s.st = St.triggering) (phase : s.ph.toNat ≤ 11) (line : s.trig = decide (2 ≤ s.ph.toNat))
      (stopped : s.run = false) (clear : s.ResultClear)
  | waitEchoRise (code : s.st = St.waitEchoRise) (rest : s.Resting) (clear : s.ResultClear)
  | timing (code : s.st = St.timing) (phase : s.ph = 0) (line : s.trig = false) (running : s.run = true)
      (count : s.cnt = 0) (clear : s.ResultClear)
  | waitEchoFall (code : s.st = St.waitEchoFall) (phase : s.ph = 0) (line : s.trig = false) (running : s.run = true)
      (count : 1 ≤ s.cnt.toNat ∧ s.cnt.toNat ≤ 31000) (inStep : s.fallWaitInStep) (clear : s.ResultClear)
  | resolved (code : s.st = St.resolved) (rest : s.Resting) (result : s.ResultValid ∨ s.ResultSentinel)

/-- The six assigned codes (V1). -/
theorem stCode_cases {c : StCode} (h : c.toNat ≤ 5) :
    c = St.idle ∨ c = St.triggering ∨ c = St.waitEchoRise ∨ c = St.timing ∨ c = St.waitEchoFall ∨ c = St.resolved := by
  revert c; decide

/-- Outside `RESOLVED` the invariant has the result registers clear. -/
theorem State.Invariants.resultClear {s : State} (h : s.Invariants) (hst : s.st ≠ St.resolved) : s.ResultClear := by
  have hv : s.valid = false := Bool.eq_false_iff.mpr fun hv => hst (h.validResult hv).1
  exact ⟨h.zeroUnlessValid hv, hv, by_contra fun hc => hst (h.causeOnlyResolved hc).1⟩

/-- Outside `TRIGGERING` the invariant has the trigger line low. -/
theorem State.Invariants.trig_low {s : State} (h : s.Invariants) (hst : s.st ≠ St.triggering) : s.trig = false :=
  Bool.eq_false_iff.mpr fun ht => hst (h.trigExactly.mp ht).1

/-- Outside `TIMING` and `WAIT_ECHO_FALL` the invariant has the counter stopped. -/
theorem State.Invariants.stopped {s : State} (h : s.Invariants) (h3 : s.st ≠ St.timing) (h4 : s.st ≠ St.waitEchoFall) :
    s.run = false :=
  Bool.eq_false_iff.mpr fun hr => (h.runExactly.mp hr).elim h3 h4

theorem State.Invariants.resting {s : State} (h : s.Invariants) (h1 : s.st ≠ St.triggering) (h3 : s.st ≠ St.timing)
    (h4 : s.st ≠ St.waitEchoFall) : s.Resting :=
  ⟨h.phAtRest h1, h.trig_low h1, h.stopped h3 h4⟩

/-- The invariant allows one of the six shapes. -/
theorem State.Inv.shape {s : State} (h : s.Inv) : s.Shape := by
  obtain ⟨hv, hfall⟩ := h
  obtain hst | hst | hst | hst | hst | hst := stCode_cases hv.stAssigned
  · exact .idle hst (hv.resting (by simp [hst]) (by simp [hst]) (by simp [hst])) (hv.resultClear (by simp [hst]))
  · refine .triggering hst (hv.phBound hst) ?_ (hv.stopped (by simp [hst]) (by simp [hst]))
      (hv.resultClear (by simp [hst]))
    rw [Bool.eq_iff_iff, hv.trigExactly, decide_eq_true_iff]
    exact ⟨fun ⟨_, hlo, _⟩ => hlo, fun hlo => ⟨hst, hlo, hv.phBound hst⟩⟩
  · exact .waitEchoRise hst (hv.resting (by simp [hst]) (by simp [hst]) (by simp [hst]))
      (hv.resultClear (by simp [hst]))
  · exact .timing hst (hv.phAtRest (by simp [hst])) (hv.trig_low (by simp [hst])) (hv.runExactly.mpr (.inl hst))
      (hv.cntTiming hst) (hv.resultClear (by simp [hst]))
  · exact .waitEchoFall hst (hv.phAtRest (by simp [hst])) (hv.trig_low (by simp [hst])) (hv.runExactly.mpr (.inr hst))
      (hv.cntFalling hst) hfall (hv.resultClear (by simp [hst]))
  · refine .resolved hst (hv.resting (by simp [hst]) (by simp [hst]) (by simp [hst])) ?_
    cases hval : s.valid with
    | true =>
      obtain ⟨-, hcause, hdist, hlo, hhi, -, -⟩ := hv.validResult hval
      exact .inl ⟨hval, hcause, hdist, hlo, hhi⟩
    | false => exact .inr ⟨hv.zeroUnlessValid hval, hval⟩

/-- A shape within the two bounds meets V1 to V10. -/
theorem State.Shape.invariants {s : State} (hdiv : s.msDiv.toNat ≤ 999) (hcnt : s.cnt.toNat ≤ 31001) (h : s.Shape) :
    s.Invariants := by
  cases h with
  | idle code rest clear | waitEchoRise code rest clear =>
    obtain ⟨hph, htrig, hrun⟩ := rest
    obtain ⟨hdist, hvalid, hcause⟩ := clear
    constructor <;> simp [State.busy, State.done, busyIn, doneIn, *]
  | triggering code phase line stopped clear =>
    obtain ⟨hdist, hvalid, hcause⟩ := clear
    constructor <;> simp [State.busy, State.done, busyIn, doneIn, *]
  | timing code phase line running count clear =>
    obtain ⟨hdist, hvalid, hcause⟩ := clear
    constructor <;> simp [State.busy, State.done, busyIn, doneIn, *]
  | waitEchoFall code phase line running count inStep clear =>
    obtain ⟨hdist, hvalid, hcause⟩ := clear
    constructor <;> simp [State.busy, State.done, busyIn, doneIn, *]
  | resolved code rest result =>
    obtain ⟨hph, htrig, hrun⟩ := rest
    obtain ⟨hvalid, hcause, hdist, hlo, hhi⟩ | ⟨hdist, hvalid⟩ := result
    · have hne : s.dist ≠ 0 := fun h0 => by simp [h0] at hdist; omega
      constructor <;> simp [State.busy, State.done, busyIn, doneIn, *]
      all_goals omega
    · constructor <;> simp [State.busy, State.done, busyIn, doneIn, *]

theorem State.Shape.fallWaitInStep {s : State} (h : s.Shape) : s.fallWaitInStep := by
  cases h with
  | waitEchoFall code phase line running count inStep clear => exact inStep
  | idle code _ _ | triggering code _ _ _ _ | waitEchoRise code _ _ | timing code _ _ _ _ _ | resolved code _ _ =>
    exact fun hst => absurd (code.symm.trans hst) (by decide)

/-- The invariant is the bounds of the divider and the counter, and one of the six shapes. -/
theorem State.inv_iff_shape (s : State) : s.Inv ↔ s.msDiv.toNat ≤ 999 ∧ s.cnt.toNat ≤ 31001 ∧ s.Shape :=
  ⟨fun h => ⟨h.1.dividerBound, h.1.cntBound, h.shape⟩,
    fun ⟨hdiv, hcnt, hshape⟩ => ⟨hshape.invariants hdiv hcnt, hshape.fallWaitInStep⟩⟩

/-! ## Launch states and reset ticks (R28) -/

theorem clearAll_isLaunch (s : State) : (clearAll s).isLaunch := by
  simp [State.isLaunch, sameRegisters]

/-- Every launch state has the idle shape. -/
theorem State.isLaunch.inv {s : State} (h : s.isLaunch) : s.Inv := by
  obtain ⟨⟨hst, hph, htrig, hcnt, hrun, -, -, -, hdist, hvalid, hcause⟩, hdiv⟩ := h
  exact (State.inv_iff_shape s).mpr ⟨hdiv, by simp [hcnt], .idle hst ⟨hph, htrig, hrun⟩ ⟨hdist, hvalid, hcause⟩⟩

/-- A reset tick ends in a launch state. -/
theorem tickAfter_inv_of_rst {s : State} (h : ivRst s.input = true) : (tickAfter s).Inv := by
  rw [tickAfter_of_rst h]
  exact (clearAll_isLaunch _).inv

/-! ## One tick from each shape

Each operation of the FSM unit leaves a shape within the bounds on top of `State.counted`. -/

/-- An accepted start begins a cycle in shape, from any registers within the bounds (R81, R105). -/
theorem beginCycle_inv {u : State} (hdiv : u.msDiv.toNat ≤ 999) (hcnt : u.cnt.toNat ≤ 31001) : (beginCycle u).Inv :=
  (State.inv_iff_shape _).mpr ⟨hdiv, hcnt, .triggering rfl (by simp [beginCycle_eq]) rfl rfl ⟨rfl, rfl, rfl⟩⟩

/-- The trigger line follows the phase it is driven at: low at 0, high at 1 to 10 (R82, R83). -/
theorem driveTrigger_inv {u : State} {b : Bit} (hdiv : u.msDiv.toNat ≤ 999) (hcnt : u.cnt.toNat ≤ 31001)
    (code : u.st = St.triggering) (hph : u.ph.toNat ≤ 10) (hb : b = decide (1 ≤ u.ph.toNat)) (stopped : u.run = false)
    (clear : u.ResultClear) : (driveTrigger b u).Inv := by
  have hnext : (driveTrigger b u).ph.toNat = u.ph.toNat + 1 := by rw [driveTrigger_ph]; bv_omega
  refine (State.inv_iff_shape _).mpr ⟨hdiv, hcnt, .triggering code (by omega) ?_ stopped clear⟩
  rw [driveTrigger_trig, hnext, hb, decide_eq_decide]
  omega

/-- A condition resolves in shape when the counter is stopped (R123). -/
theorem resolveInvalid_inv {u : State} (c : CauseCode) (hdiv : u.msDiv.toNat ≤ 999) (hcnt : u.cnt.toNat ≤ 31001)
    (hrest : u.Resting) : (resolveInvalid c u).Inv :=
  (State.inv_iff_shape _).mpr ⟨hdiv, hcnt, .resolved rfl hrest (.inr ⟨rfl, rfl⟩)⟩

/-- The measured pulse resolves in shape, plausible or not (R95). -/
theorem resolveMeasured_inv {u : State} (hdiv : u.msDiv.toNat ≤ 999) (hcnt : u.cnt.toNat ≤ 31001)
    (hrest : u.Resting) : (resolveMeasured (convert u.cnt) u).Inv := by
  unfold resolveMeasured
  split
  next hp =>
    obtain ⟨hlo, hhi⟩ := (plausible_convert_iff u.cnt).mp hp
    exact (State.inv_iff_shape _).mpr
      ⟨hdiv, hcnt, .resolved rfl hrest (.inl ⟨rfl, rfl, toNat_setWidth_convert hhi, hlo, hhi⟩)⟩
  next => exact resolveInvalid_inv _ hdiv hcnt hrest

theorem counted_cnt_le_of_stopped {s : State} (hrun : s.run = false) (hcnt : s.cnt.toNat ≤ 31001) :
    s.counted.cnt.toNat ≤ 31001 := by
  rwa [State.counted_cnt_of_stopped hrun]

/-- In the fall wait the counter and the tick source advance together (R115). -/
theorem counted_inStep {s : State} (hdiv : s.msDiv.toNat ≤ 999) (code : s.st = St.waitEchoFall)
    (running : s.run = true) (count : s.cnt.toNat ≤ 31000) (inStep : s.fallWaitInStep) :
    s.counted.cnt.toNat = s.cnt.toNat + 1 ∧
    1000 * (s.counted.msNow - s.t0).toNat + s.counted.msDiv.toNat =
      1000 * (s.msNow - s.t0).toNat + s.msDiv.toNat + 1 ∧
    s.counted.cnt.toNat ≤ 1000 * (s.counted.msNow - s.t0).toNat + s.counted.msDiv.toNat + 1 ∧
    1000 * (s.counted.msNow - s.t0).toNat + s.counted.msDiv.toNat ≤ s.counted.cnt.toNat + 998 ∧
    s.counted.cnt.toNat ≤ 31001 := by
  obtain ⟨helapsed, hupper, hlower⟩ := inStep code
  have hclock := State.counted_clock hdiv s.t0
  have hcnt := State.counted_cnt_toNat running count
  simp only [elapsedMs] at helapsed hupper hlower
  omega

section

variable {s : State} (hr : ivRst s.input = false) (hdiv : s.msDiv.toNat ≤ 999)
include hr hdiv

theorem tickAfter_inv_of_idle (hcnt : s.cnt.toNat ≤ 31001) (code : s.st = St.idle)
    (rest : s.Resting) (clear : s.ResultClear) : (tickAfter s).Inv := by
  have hdiv' := State.counted_msDiv_le hdiv
  have hcnt' := counted_cnt_le_of_stopped rest.stopped hcnt
  rw [tickAfter_of_idle hr code]
  split
  · exact beginCycle_inv hdiv' hcnt'
  · exact (State.inv_iff_shape _).mpr ⟨hdiv', hcnt', .idle code rest clear⟩

theorem tickAfter_inv_of_triggering (hcnt : s.cnt.toNat ≤ 31001) (code : s.st = St.triggering)
    (stopped : s.run = false) (clear : s.ResultClear) : (tickAfter s).Inv := by
  have hdiv' := State.counted_msDiv_le hdiv
  have hcnt' := counted_cnt_le_of_stopped stopped hcnt
  rw [tickAfter_of_triggering hr code]
  split_ifs with h0 h10
  · exact driveTrigger_inv hdiv' hcnt' code (by simp [h0]) (by simp [h0]) stopped clear
  · exact driveTrigger_inv hdiv' hcnt' code h10 (decide_eq_true (Nat.pos_of_ne_zero h0)).symm stopped clear
  · exact (State.inv_iff_shape _).mpr ⟨hdiv', hcnt', .waitEchoRise rfl ⟨rfl, rfl, stopped⟩ clear⟩

theorem tickAfter_inv_of_waitEchoRise (hcnt : s.cnt.toNat ≤ 31001) (code : s.st = St.waitEchoRise)
    (rest : s.Resting) (clear : s.ResultClear) : (tickAfter s).Inv := by
  have hdiv' := State.counted_msDiv_le hdiv
  have hcnt' := counted_cnt_le_of_stopped rest.stopped hcnt
  rw [tickAfter_of_waitEchoRise hr code]
  split_ifs
  · exact (State.inv_iff_shape _).mpr ⟨hdiv', Nat.zero_le _, .timing rfl rest.phase rest.line rfl rfl clear⟩
  · exact resolveInvalid_inv _ hdiv' hcnt' rest
  · exact (State.inv_iff_shape _).mpr ⟨hdiv', hcnt', .waitEchoRise code rest clear⟩

/-- The arming tick counts 1 and latches the deadline, so the fall wait begins in step (R93). -/
theorem tickAfter_inv_of_timing (code : s.st = St.timing) (phase : s.ph = 0) (line : s.trig = false)
    (running : s.run = true) (count : s.cnt = 0) (clear : s.ResultClear) : (tickAfter s).Inv := by
  have hdiv' := State.counted_msDiv_le hdiv
  have hcnt' : s.counted.cnt.toNat = 1 := by simp [State.counted_cnt_of_running running, count]
  have hstep : (goTo St.waitEchoFall (latchDeadline s.counted)).fallWaitInStep := fun _ => by
    simp only [goTo_msNow, goTo_t0, goTo_cnt, goTo_msDiv, latchDeadline_msNow, latchDeadline_t0, latchDeadline_cnt,
      latchDeadline_msDiv, elapsedMs, BitVec.sub_self, hcnt', BitVec.toNat_zero]
    omega
  rw [tickAfter_of_timing hr code]
  exact (State.inv_iff_shape _).mpr
    ⟨hdiv', by simp [hcnt'], .waitEchoFall rfl phase line running (by simp [hcnt']) hstep clear⟩

theorem tickAfter_inv_of_waitEchoFall (code : s.st = St.waitEchoFall) (phase : s.ph = 0) (line : s.trig = false)
    (running : s.run = true) (count : s.cnt.toNat ≤ 31000) (inStep : s.fallWaitInStep) (clear : s.ResultClear) :
    (tickAfter s).Inv := by
  have hdiv' := State.counted_msDiv_le hdiv
  obtain ⟨hcnt, -, hupper, hlower, hcnt'⟩ := counted_inStep hdiv code running count inStep
  have hrest : (stopCounter s.counted).Resting := ⟨phase, line, rfl⟩
  rw [tickAfter_of_waitEchoFall hr code]
  split_ifs with he hx
  · exact resolveInvalid_inv _ hdiv' hcnt' hrest
  · rw [expired_iff] at hx
    exact (State.inv_iff_shape _).mpr
      ⟨hdiv', hcnt', .waitEchoFall code phase line running (by omega)
        (fun _ => ⟨Nat.le_of_not_lt hx, hupper, hlower⟩) clear⟩
  · exact resolveMeasured_inv (u := stopCounter s.counted) hdiv' hcnt' hrest

theorem tickAfter_inv_of_resolved (hcnt : s.cnt.toNat ≤ 31001) (code : s.st = St.resolved) (rest : s.Resting)
    (result : s.ResultValid ∨ s.ResultSentinel) : (tickAfter s).Inv := by
  have hdiv' := State.counted_msDiv_le hdiv
  have hcnt' := counted_cnt_le_of_stopped rest.stopped hcnt
  have hresult : s.counted.ResultValid ∨ s.counted.ResultSentinel := by
    have hc := State.counted_cnt_of_stopped rest.stopped
    exact result.imp (fun v => ⟨v.valid, v.noCause, hc ▸ v.product, hc ▸ v.low, hc ▸ v.high⟩)
      fun v => ⟨v.dist, v.invalid⟩
  rw [tickAfter_of_resolved hr code]
  split
  · exact beginCycle_inv hdiv' hcnt'
  · exact (State.inv_iff_shape _).mpr ⟨hdiv', hcnt', .resolved code rest hresult⟩

end

/-- Every tick keeps the invariant. -/
theorem State.Inv.tickAfter {s : State} (h : s.Inv) : (tickAfter s).Inv := by
  cases hr : ivRst s.input with
  | true => exact tickAfter_inv_of_rst hr
  | false =>
    obtain ⟨hdiv, hcnt, hshape⟩ := (State.inv_iff_shape s).mp h
    cases hshape with
    | idle code rest clear => exact tickAfter_inv_of_idle hr hdiv hcnt code rest clear
    | triggering code _ _ stopped clear => exact tickAfter_inv_of_triggering hr hdiv hcnt code stopped clear
    | waitEchoRise code rest clear => exact tickAfter_inv_of_waitEchoRise hr hdiv hcnt code rest clear
    | timing code phase line running count clear =>
      exact tickAfter_inv_of_timing hr hdiv code phase line running count clear
    | waitEchoFall code phase line running count inStep clear =>
      exact tickAfter_inv_of_waitEchoFall hr hdiv code phase line running count.2 inStep clear
    | resolved code rest result => exact tickAfter_inv_of_resolved hr hdiv hcnt code rest result

/-- Every run keeps the invariant. -/
theorem State.Inv.runTicks {s t : State} {n : Nat} (h : s.Inv) (hrun : runTicks n s = .next t) : t.Inv := by
  induction n generalizing s with
  | zero => cases hrun; exact h
  | succ n ih =>
    rw [runTicks_succ] at hrun
    exact ih h.tickAfter hrun

end Sys2Proof.Machine
end

section
/-! SUPPORT. The tick source over a run without reset, and the count that `FALL.TIMEOUT` leaves. -/

namespace Sys2Proof.Machine

/-- R17, R18: without a reset the FSM unit leaves the divider and the tick source as the MS unit has left them. -/
theorem tickAfter_timeBase {s : State} (hr : ivRst s.input = false) :
    (tickAfter s).msDiv = s.counted.msDiv ∧ (tickAfter s).msNow = s.counted.msNow := by
  have hunits := fsmSelect_not_mem_units hr s.counted
  rw [tickAfter_of_run hr]
  have hsub : [Instr.reset, .msWrap] ⊆ [Instr.reset, .msDiv, .msWrap] := by decide
  exact ⟨after_msDiv_of_not_writer _ hunits, after_msNow_of_not_writer _ fun hmem => hunits (hsub hmem)⟩

/-- The tick source and its divider as one count of ticks (R17, R18, R111). -/
def State.clock (s : State) : Nat := 1000 * s.msNow.toNat + s.msDiv.toNat

theorem State.clock_lt {s : State} (h : s.msDiv.toNat ≤ 999) : s.clock < 65536000 := by
  have := s.msNow.isLt
  unfold State.clock
  omega

theorem tickAfter_clock {s : State} (hr : ivRst s.input = false) (hdiv : s.msDiv.toNat ≤ 999) :
    (tickAfter s).clock = (s.clock + 1) % 65536000 := by
  obtain ⟨hmsDiv, hmsNow⟩ := tickAfter_timeBase hr
  have hclock := State.counted_clock hdiv 0#16
  rwa [BitVec.sub_zero, BitVec.sub_zero, ← hmsDiv, ← hmsNow] at hclock

/-- A run without reset keeps the divider below 1000 and adds its length to the clock. -/
theorem runTicks_clock {s t : State} {n : Nat} (hdiv : s.msDiv.toNat ≤ 999) (hrst : ∀ j, j < n → s.rstAt j = false)
    (hrun : runTicks n s = .next t) : t.msDiv.toNat ≤ 999 ∧ t.clock = (s.clock + n) % 65536000 := by
  induction n generalizing s with
  | zero =>
    cases hrun
    exact ⟨hdiv, (Nat.mod_eq_of_lt (State.clock_lt hdiv)).symm⟩
  | succ n ih =>
    have hr : ivRst s.input = false := hrst 0 n.succ_pos
    have hdiv' : (tickAfter s).msDiv.toNat ≤ 999 := (tickAfter_timeBase hr).1 ▸ State.counted_msDiv_le hdiv
    have hrst' : ∀ j, j < n → (tickAfter s).rstAt j = false := fun j hj => by
      rw [State.rstAt, inputAt_tickAfter]
      exact hrst (j + 1) (Nat.succ_lt_succ hj)
    rw [runTicks_succ] at hrun
    obtain ⟨hdivT, hclockT⟩ := ih hdiv' hrst' hrun
    have hclock := tickAfter_clock hr hdiv
    exact ⟨hdivT, by omega⟩

/-! ## The second deadline (R96, R115) -/

theorem fsmOp_of_rst {s : State} (h : ivRst s.input = true) : s.fsmOp = some .reset := by
  simp [State.fsmOp, State.atFsm, h, fsmWord, selectFsm]

/-- `FALL.TIMEOUT` runs only in the fall wait, with `echo` still high, the deadline expired, and no reset. -/
theorem fsmOp_eq_fallTimeout {s : State} (h : s.fsmOp = some .fallTimeout) :
    ivRst s.input = false ∧ s.st = St.waitEchoFall ∧ ivEcho s.input = true ∧
      expired s.counted.msNow s.t0 = true := by
  cases hr : ivRst s.input with
  | true => rw [fsmOp_of_rst hr] at h; cases h
  | false =>
    rw [fsmOp_of_run hr, cntNext_msNext_eq] at h
    obtain ⟨-, hcode, hecho, hexpired⟩ := selectFsm_eq_fallTimeout (Option.some.inj h)
    exact ⟨rfl, hcode, hecho, hexpired⟩

/-- The deadline of the fall wait expires at a tick that makes `1000 * elapsed_ms + ms_div` exactly 31000, so the count it
leaves is between 30002 and 31001. -/
theorem tickAfter_cnt_of_fallTimeout {s : State} (h : s.Inv) (hop : s.fsmOp = some .fallTimeout) :
    30002 ≤ (tickAfter s).cnt.toNat ∧ (tickAfter s).cnt.toNat ≤ 31001 := by
  obtain ⟨hr, code, hecho, hexpired⟩ := fsmOp_eq_fallTimeout hop
  obtain ⟨hv, hstep⟩ := h
  have hcnt : (tickAfter s).cnt = s.counted.cnt := by
    rw [tickAfter_of_waitEchoFall hr code, if_pos hecho, if_pos hexpired]; rfl
  obtain ⟨hcount, hclock, hupper, hlower, hbound⟩ :=
    counted_inStep hv.dividerBound code (hv.runExactly.mpr (.inr code)) (hv.cntFalling code).2 hstep
  rw [expired_iff] at hexpired
  rw [hcnt]
  exact ⟨by omega, hbound⟩

/-! ## The output predicates (R25) -/

theorem busyIn_iff (c : StCode) : busyIn c = true ↔ 1 ≤ c.toNat ∧ c.toNat ≤ 4 := by revert c; decide

theorem doneIn_iff (c : StCode) : doneIn c = true ↔ c.toNat = 5 := by revert c; decide

end Sys2Proof.Machine
end

section
/-! The statements about the state that hold: outputs, writes, the tick source and the invariant (10_state.md). -/

namespace Sys2Proof.Proofs

open Sys2Proof.Machine

/-- Settles O2, by the reset tick's one operation, `clearAll` (R28, R140). -/
theorem resetTickLeavesEveryRegisterZero : Obligations.ResetTickLeavesEveryRegisterZero := by
  refine ⟨by simp [sameRegisters], fun s hr => ⟨clearAll s.takeInput, step_of_rst hr, ?_, rfl⟩⟩
  simp [sameRegisters]

/-- Settles O24, by reading `busy` and `done` as ranges of the state code. -/
theorem outputsAreFunctionsOfTheRegisters : Obligations.OutputsAreFunctionsOfTheRegisters := by
  intro s
  refine ⟨rfl, rfl, rfl, rfl, rfl, rfl, busyIn_iff s.st, doneIn_iff s.st, fun ⟨hbusy, hdone⟩ => ?_, fun hcode => ?_⟩
  · have hle := ((busyIn_iff s.st).mp hbusy).2
    have heq := (doneIn_iff s.st).mp hdone
    omega
  · obtain h | h | h := hcode <;> simp [State.outputs, h, busyIn, doneIn]

/-- Settles O38: a launch state has the idle shape, and a reset tick leaves a launch state. -/
theorem launchStatesMeetTheInvariant : Obligations.LaunchStatesMeetTheInvariant := by
  refine ⟨clearAll_isLaunch State.reset, fun s h => h.inv, fun s t hr hstep => ?_⟩
  rw [step_eq] at hstep
  cases hstep
  exact tickAfter_inv_of_rst hr

/-- Settles O13, by the frame of each register over the operations. -/
theorem onlyListedOperationsWriteEachRegister : Obligations.OnlyListedOperationsWriteEachRegister := by
  intro i s t hexec
  rw [exec_eq_after] at hexec
  cases hexec
  refine ⟨?_, ?_, ?_, ?_, ?_, ?_, ?_, ?_, ?_, after_lines i s, after_tick i s⟩
  · exact not_imp_comm.mp (after_st_of_not_writer s)
  · refine fun hne => by_contra fun hmem => ?_
    obtain ⟨hph, htrig⟩ := after_trigger_of_not_writer s hmem
    exact hne.elim (· hph) (· htrig)
  · refine fun hhigh hlow => by_contra fun hne => ?_
    rw [after_trig_of_ne_trigHigh hne hlow] at hhigh
    cases hhigh
  · exact not_imp_comm.mp (after_cnt_of_not_writer s)
  · exact not_imp_comm.mp (after_run_of_not_writer s)
  · exact not_imp_comm.mp (after_t0_of_not_writer s)
  · exact not_imp_comm.mp (after_msDiv_of_not_writer s)
  · exact not_imp_comm.mp (after_msNow_of_not_writer s)
  · refine fun hne => by_contra fun hmem => ?_
    obtain ⟨hdist, hvalid, hcause⟩ := after_result_of_not_writer s hmem
    exact hne.elim (· hdist) (·.elim (· hvalid) (· hcause))

/-- Settles O36, by induction on the run: every tick adds one to the clock. -/
theorem tickSourceCountsEveryTick : Obligations.TickSourceCountsEveryTick :=
  fun _ _ _ hdiv hrst hrun => runTicks_clock hdiv hrst hrun

/-- Settles O39: each of the six shapes of the invariant steps into a shape within the bounds. -/
theorem stepKeepsTheInvariant : Obligations.StepKeepsTheInvariant := by
  intro s t h hstep
  rw [step_eq] at hstep
  cases hstep
  exact h.tickAfter

/-- Settles O40, by the invariant along the run from a launch state or from the state after the reset tick, and by the fall
wait's bookkeeping at the tick of `FALL.TIMEOUT`. -/
theorem invariantsHoldOnEveryRun : Obligations.InvariantsHoldOnEveryRun := by
  refine ⟨fun s t n hrun hstart => ?_, fun t h hop => ⟨tickAfter t, step_eq t, tickAfter_cnt_of_fallTimeout h hop⟩⟩
  obtain hlaunch | ⟨hr, hn⟩ := hstart
  · exact hlaunch.inv.runTicks hrun
  · obtain ⟨m, rfl⟩ := Nat.exists_eq_add_of_le' hn
    rw [runTicks_succ] at hrun
    exact (tickAfter_inv_of_rst hr).runTicks hrun

/-- Settles O41, by V5 and V6 of the invariant. -/
theorem validExactlyWhenDistanceNonzero : Obligations.ValidExactlyWhenDistanceNonzero := by
  intro s ⟨hv, _⟩
  refine ⟨hv.validExactly, fun hvalid => ?_⟩
  obtain ⟨hcode, -, hdist, -, -, hlo, hhi⟩ := hv.validResult hvalid
  exact ⟨(doneIn_iff s.st).mpr (by rw [hcode]; rfl), hlo, hhi, s.cnt.toNat, hdist⟩

end Sys2Proof.Proofs
end

section
/-! SUPPORT. Facts about one tick and one run that the statements of 20_memory.md share: the inputs of a later tick, the two
output predicates as state codes, and a wait's own clock. -/

namespace Sys2Proof.Machine

/-! ## The inputs of a later tick -/

theorem rstAt_tickAfter (s : State) (j : Nat) : (tickAfter s).rstAt j = s.rstAt (j + 1) :=
  congrArg ivRst (inputAt_tickAfter s j)

theorem startAt_tickAfter (s : State) (j : Nat) : (tickAfter s).startAt j = s.startAt (j + 1) :=
  congrArg ivStart (inputAt_tickAfter s j)

theorem ivRst_input_runTicks {n : Nat} {s t : State} (h : runTicks n s = .next t) : ivRst t.input = s.rstAt n :=
  congrArg ivRst (inputAt_runTicks h 0)

/-! ## `done`, `busy` and an accepted start by state code (R25, R81, R105) -/

theorem State.done_iff (s : State) : s.done = true ↔ s.st = St.resolved := beq_iff_eq

theorem State.busy_iff (s : State) :
    s.busy = true ↔ s.st = St.triggering ∨ s.st = St.waitEchoRise ∨ s.st = St.timing ∨ s.st = St.waitEchoFall := by
  simp [State.busy, busyIn, or_assoc]

theorem tickAfter_st_of_rst {s : State} (h : ivRst s.input = true) : (tickAfter s).st = St.idle := by
  rw [tickAfter_of_rst h]; rfl

theorem tickAfter_of_acceptsStart {s : State} (h : s.acceptsStart) : tickAfter s = beginCycle s.counted := by
  obtain ⟨hcode, hstart, hr⟩ := h
  obtain code | code := hcode
  · rw [tickAfter_of_idle hr code]; exact if_pos hstart
  · rw [tickAfter_of_resolved hr code]; exact if_pos hstart

/-! ## A wait's own clock (R114, R115) -/

/-- R110, R111: whatever the divider was, even a value of 1000 or more, it is below 1000 after a tick. -/
theorem State.counted_msDiv_lt (s : State) : s.counted.msDiv.toNat < 1000 := by
  unfold State.counted
  by_cases hw : 999 ≤ s.msDiv.toNat
  · simp [hw]
  · simp only [hw, if_false]; bv_omega

/-- The divider is below 1000 after every tick, whatever it was before it (R110, R111, R140). -/
theorem tickAfter_msDiv_lt (s : State) : (tickAfter s).msDiv.toNat < 1000 := by
  cases hr : ivRst s.input with
  | true => rw [tickAfter_of_rst hr]; simp
  | false => rw [(tickAfter_timeBase hr).1]; exact s.counted_msDiv_lt

/-- R110, R111: the divider counts modulo 1000. -/
theorem State.counted_msDiv_toNat {s : State} (h : s.msDiv.toNat < 1000) :
    s.counted.msDiv.toNat = (s.msDiv.toNat + 1) % 1000 := by
  unfold State.counted
  by_cases hw : 999 ≤ s.msDiv.toNat
  · simp only [hw, if_true]; bv_omega
  · simp only [hw, if_false]; bv_omega

/-- The tick source and its divider seen from the latch `t0`: the divider's value at the latch tick plus the ticks since. -/
def State.waitClock (s : State) : Nat := 1000 * (elapsedMs s.msNow s.t0).toNat + s.msDiv.toNat

theorem State.waitClock_latchDeadline (s : State) : (latchDeadline s).waitClock = s.msDiv.toNat := by
  simp [State.waitClock, elapsedMs]

theorem State.waitClock_mod (s : State) (h : s.msDiv.toNat < 1000) : s.waitClock % 1000 = s.msDiv.toNat := by
  unfold State.waitClock; omega

/-- While the deadline has not passed, the wait's clock advances by one at every tick. -/
theorem State.waitClock_counted {s : State} (h : s.msDiv.toNat < 1000) (hc : s.waitClock < 31000) :
    s.counted.waitClock = s.waitClock + 1 := by
  have hclock := State.counted_clock (Nat.le_of_lt_succ h) s.t0
  simp only [State.waitClock, elapsedMs, State.counted_t0] at hc ⊢
  omega

/-- R114: the deadline is expired exactly when the wait's clock shows 31 milliseconds. -/
theorem State.expired_counted_iff (s : State) :
    expired s.counted.msNow s.t0 = true ↔ 31000 ≤ s.counted.waitClock := by
  have hdiv := s.counted_msDiv_lt
  rw [expired_iff]
  simp only [State.waitClock, elapsedMs, State.counted_t0]
  omega

end Sys2Proof.Machine
end

section
/-! SUPPORT. A block that holds its result (20_memory.md R47). -/

namespace Sys2Proof.Machine

/-- The registers behind `done`, the result and the count are the same, and the counter is stopped in both states. -/
structure State.HoldsResultOf (t s : State) : Prop where
  code : t.st = s.st
  stopped : t.run = false
  dist : t.dist = s.dist
  valid : t.valid = s.valid
  cause : t.cause = s.cause
  cnt : t.cnt = s.cnt

/-- R104, R112: `RES.HOLD` and `CNT.HOLD` write nothing. -/
theorem tickAfter_holds {s : State} (hr : ivRst s.input = false) (ha : ivStart s.input = false)
    (code : s.st = St.resolved) (stopped : s.run = false) : (tickAfter s).HoldsResultOf s := by
  have htick : tickAfter s = s.counted := by rw [tickAfter_of_resolved hr code, ha]; rfl
  rw [htick]
  exact ⟨rfl, stopped, rfl, rfl, rfl, State.counted_cnt_of_stopped stopped⟩

theorem State.HoldsResultOf.trans {s t u : State} (hut : u.HoldsResultOf t) (hts : t.HoldsResultOf s) :
    u.HoldsResultOf s :=
  ⟨hut.code.trans hts.code, hut.stopped, hut.dist.trans hts.dist, hut.valid.trans hts.valid,
    hut.cause.trans hts.cause, hut.cnt.trans hts.cnt⟩

/-- Without a start and without a reset a resolved block holds its result over any run. -/
theorem runTicks_holds {s t : State} {n : Nat} (code : s.st = St.resolved) (stopped : s.run = false)
    (hquiet : ∀ j, j < n → s.startAt j = false ∧ s.rstAt j = false) (hrun : runTicks n s = .next t) :
    t.HoldsResultOf s := by
  induction n generalizing s with
  | zero => cases hrun; exact ⟨rfl, stopped, rfl, rfl, rfl, rfl⟩
  | succ n ih =>
    obtain ⟨ha, hr⟩ := hquiet 0 n.succ_pos
    have hold := tickAfter_holds hr ha code stopped
    have hquiet' : ∀ j, j < n → (tickAfter s).startAt j = false ∧ (tickAfter s).rstAt j = false := fun j hj => by
      rw [startAt_tickAfter, rstAt_tickAfter]
      exact hquiet (j + 1) (Nat.succ_lt_succ hj)
    rw [runTicks_succ] at hrun
    exact (ih (hold.code.trans code) hold.stopped hquiet' hrun).trans hold

end Sys2Proof.Machine
end

section
/-! SUPPORT. A cycle underway (20_memory.md R49, R150, R151): what the registers are just before its tick `k`, and that a
tick without a reset either keeps it underway or resolves it. -/

namespace Sys2Proof.Machine

/-- What is known of the state from which tick `k` of a cycle starts, counted from the accepted start at tick 0. The
trigger phase counts the ticks; `TRIG.END` is tick 12 and latches a clock below 1000, so in the rise wait the clock is
`k - 13` and less than 1000 more; the arming tick latches again, and the later it comes the less of its millisecond is
left. -/
inductive State.Underway (k : Nat) (s : State) : Prop
  | triggering (code : s.st = St.triggering) (phase : k = s.ph.toNat + 1) (bound : k ≤ 12)
  | waitEchoRise (code : s.st = St.waitEchoRise) (begun : 13 ≤ k) (waiting : s.waitClock < 31000)
      (clock : k ≤ s.waitClock + 13 ∧ s.waitClock + 13 < k + 1000)
  | timing (code : s.st = St.timing) (begun : 14 ≤ k) (clock : k ≤ 31012 + (s.msDiv.toNat + 1) % 1000)
  | waitEchoFall (code : s.st = St.waitEchoFall) (begun : 15 ≤ k) (waiting : s.waitClock < 31000)
      (clock : k ≤ 31013 + s.waitClock)

theorem State.Underway.busy {k : Nat} {s : State} (h : s.Underway k) : s.busy = true := by
  rw [State.busy_iff]
  cases h with
  | triggering code _ _ => exact .inl code
  | waitEchoRise code _ _ _ => exact .inr (.inl code)
  | timing code _ _ => exact .inr (.inr (.inl code))
  | waitEchoFall code _ _ _ => exact .inr (.inr (.inr code))

/-- R151: no cycle is underway after 62012 ticks. -/
theorem State.Underway.le {k : Nat} {s : State} (h : s.Underway k) : k ≤ 62012 := by
  cases h <;> omega

/-- R81, R105: an accepted start begins a cycle. -/
theorem underway_of_acceptsStart {s : State} (h : s.acceptsStart) : (tickAfter s).Underway 1 := by
  rw [tickAfter_of_acceptsStart h]
  exact .triggering rfl rfl (by decide)

section

variable {k : Nat} {s : State} (hr : ivRst s.input = false) (hdiv : s.msDiv.toNat < 1000)
include hr

/-- R82, R83, R84: the first eleven ticks shape the pulse, the twelfth latches the first deadline. -/
theorem underway_tickAfter_of_triggering (code : s.st = St.triggering) (phase : k = s.ph.toNat + 1)
    (bound : k ≤ 12) : (tickAfter s).Underway (k + 1) := by
  have hdrive (b : Bit) (h10 : s.ph.toNat ≤ 10) : (driveTrigger b s.counted).Underway (k + 1) := by
    refine .triggering code ?_ (by omega)
    rw [driveTrigger_ph, State.counted_ph]
    bv_omega
  rw [tickAfter_of_triggering hr code]
  split_ifs with h0 h10
  · exact hdrive false (by omega)
  · exact hdrive true h10
  · have hlt := s.counted_msDiv_lt
    have hclock : (goTo St.waitEchoRise (latchDeadline (restTrigger s.counted))).waitClock = s.counted.msDiv.toNat :=
      State.waitClock_latchDeadline (restTrigger s.counted)
    exact .waitEchoRise rfl (by omega) (by omega) (by omega)

include hdiv

/-- R90, R91, R92: the rise wait goes on, ends in an edge, or ends in its timeout, which comes no
earlier than 30001 ticks after the latch. -/
theorem underway_tickAfter_of_waitEchoRise (code : s.st = St.waitEchoRise) (begun : 13 ≤ k)
    (waiting : s.waitClock < 31000) (clock : k ≤ s.waitClock + 13 ∧ s.waitClock + 13 < k + 1000) :
    (tickAfter s).Underway (k + 1) ∨ 15 ≤ k ∧ (tickAfter s).done = true := by
  have hnext := State.waitClock_counted hdiv waiting
  rw [tickAfter_of_waitEchoRise hr code]
  split_ifs with he hx
  · have hmod := State.waitClock_mod s hdiv
    have hmsDiv : (goTo St.timing (startCounter s.counted)).msDiv.toNat = (s.msDiv.toNat + 1) % 1000 :=
      State.counted_msDiv_toNat hdiv
    exact .inl (.timing rfl (by omega) (by omega))
  · rw [State.expired_counted_iff] at hx
    exact .inr ⟨by omega, rfl⟩
  · rw [State.expired_counted_iff] at hx
    exact .inl (.waitEchoRise code (by omega) (by omega) (by omega))

/-- R93: the arming tick latches the second deadline. -/
theorem underway_tickAfter_of_timing (code : s.st = St.timing) (begun : 14 ≤ k)
    (clock : k ≤ 31012 + (s.msDiv.toNat + 1) % 1000) : (tickAfter s).Underway (k + 1) := by
  have hclock : (goTo St.waitEchoFall (latchDeadline s.counted)).waitClock = (s.msDiv.toNat + 1) % 1000 :=
    (State.waitClock_latchDeadline s.counted).trans (State.counted_msDiv_toNat hdiv)
  rw [tickAfter_of_timing hr code]
  exact .waitEchoFall rfl (by omega) (by omega) (by omega)

/-- R94, R95, R96: the fall wait goes on or resolves. -/
theorem underway_tickAfter_of_waitEchoFall (code : s.st = St.waitEchoFall) (begun : 15 ≤ k)
    (waiting : s.waitClock < 31000) (clock : k ≤ 31013 + s.waitClock) :
    (tickAfter s).Underway (k + 1) ∨ 15 ≤ k ∧ (tickAfter s).done = true := by
  have hnext := State.waitClock_counted hdiv waiting
  rw [tickAfter_of_waitEchoFall hr code]
  split_ifs with he hx
  · exact .inr ⟨begun, rfl⟩
  · rw [State.expired_counted_iff] at hx
    exact .inl (.waitEchoFall code (by omega) (by omega) (by omega))
  · exact .inr ⟨begun, (State.done_iff _).mpr (resolveMeasured_st _ _)⟩

/-- A tick of a cycle without a reset keeps the cycle underway, or resolves it at tick 15 or later (R150). -/
theorem State.Underway.tickAfter (h : s.Underway k) :
    (tickAfter s).Underway (k + 1) ∨ 15 ≤ k ∧ (tickAfter s).done = true := by
  cases h with
  | triggering code phase bound => exact .inl (underway_tickAfter_of_triggering hr code phase bound)
  | waitEchoRise code begun waiting clock => exact underway_tickAfter_of_waitEchoRise hr hdiv code begun waiting clock
  | timing code begun clock => exact .inl (underway_tickAfter_of_timing hr hdiv code begun clock)
  | waitEchoFall code begun waiting clock => exact underway_tickAfter_of_waitEchoFall hr hdiv code begun waiting clock

end

/-- Tick `k` from `s` on belongs to a cycle begun at tick 0. -/
def State.UnderwayAt (s : State) (k : Nat) : Prop := ∃ u, runTicks k s = .next u ∧ u.Underway k

/-- No reset is sampled at a tick after which the cycle is still underway. -/
theorem State.UnderwayAt.rstAt {s : State} {k : Nat} (h : s.UnderwayAt (k + 1)) : s.rstAt k = false := by
  obtain ⟨v, hv, hunder⟩ := h
  obtain ⟨u, hu⟩ := runTicks_next k s
  rw [runTicks_snoc hu] at hv
  cases hv
  rw [← ivRst_input_runTicks hu]
  refine Bool.eq_false_iff.mpr fun hr => ?_
  have hbusy := (State.busy_iff _).mp hunder.busy
  rw [tickAfter_st_of_rst hr] at hbusy
  revert hbusy
  decide

/-- A cycle that is underway at tick `k` and not at the next ends at tick `k`, in a reset or in `RESOLVED`. -/
theorem State.UnderwayAt.ends {s : State} {k : Nat} (h : s.UnderwayAt (k + 1)) (hlast : ¬ s.UnderwayAt (k + 2)) :
    ∃ t, runTicks (k + 2) s = .next t ∧
      (s.rstAt (k + 1) = true ∧ t.st = 0 ∨ s.rstAt (k + 1) = false ∧ 15 ≤ k + 1 ∧ t.done = true) := by
  obtain ⟨u, hu, hunder⟩ := h
  have hdiv : u.msDiv.toNat < 1000 := by
    obtain ⟨v, hv⟩ := runTicks_next k s
    rw [runTicks_snoc hv] at hu
    cases hu
    exact tickAfter_msDiv_lt v
  refine ⟨tickAfter u, runTicks_snoc hu, ?_⟩
  rw [← ivRst_input_runTicks hu]
  cases hr : ivRst u.input with
  | true => exact .inl ⟨rfl, tickAfter_st_of_rst hr⟩
  | false =>
    obtain hstill | hdone := hunder.tickAfter hr hdiv
    · exact absurd ⟨_, runTicks_snoc hu, hstill⟩ hlast
    · exact .inr ⟨rfl, hdone⟩

end Sys2Proof.Machine
end

section
/-! The statements of 20_memory.md that hold: the result rests while the block is done, and every cycle ends in time. -/

namespace Sys2Proof.Proofs

open Sys2Proof.Machine

/-- Settles O44: in `RESOLVED` V4 has the counter stopped, so every tick holds the result and the count; a start begins a
cycle, which clears the result. -/
theorem resolvedResultIsStable : Obligations.ResolvedResultIsStable := by
  refine ⟨fun s t n hinv hdone hquiet hrun => ?_, fun s t _ hstart hstep => ?_⟩
  · have code := (State.done_iff s).mp hdone
    have stopped := hinv.1.stopped (by simp [code]) (by simp [code])
    have hold := runTicks_holds code stopped hquiet hrun
    exact ⟨(State.done_iff t).mpr (hold.code.trans code), hold.dist, hold.valid, hold.cause, hold.cnt⟩
  · rw [step_eq, tickAfter_of_acceptsStart hstart] at hstep
    cases hstep
    exact ⟨rfl, rfl, rfl, rfl⟩

/-- Settles O50: the cycle is underway at tick 1 and at no tick after 62012, so there is a last tick of it, and there it
ends. -/
theorem everyCycleResolvesInTime : Obligations.EveryCycleResolvesInTime := by
  classical
  intro s hstart
  have hfirst : s.UnderwayAt 1 := ⟨_, runTicks_succ 0 s, underway_of_acceptsStart hstart⟩
  have hover : ¬ s.UnderwayAt (62011 + 2) := fun ⟨_, _, hunder⟩ => absurd hunder.le (by decide)
  have hends : ∃ k, ¬ s.UnderwayAt (k + 2) := ⟨62011, hover⟩
  have hunder : ∀ m, m ≤ Nat.find hends → s.UnderwayAt (m + 1)
    | 0, _ => hfirst
    | m + 1, hm => not_not.mp (Nat.find_min hends hm)
  obtain ⟨t, hrun, hresult⟩ := (hunder _ le_rfl).ends (Nat.find_spec hends)
  have hle : Nat.find hends ≤ 62011 := Nat.find_le hover
  refine ⟨Nat.find hends + 1, t, by omega, by omega, fun j hj => (hunder j (by omega)).rstAt, fun m h1 hm => ?_,
    hrun, hresult⟩
  obtain ⟨j, rfl⟩ := Nat.exists_eq_add_of_le' h1
  obtain ⟨u, hu, hu'⟩ := hunder j (by omega)
  exact ⟨u, hu, hu'.busy⟩

end Sys2Proof.Proofs
end

section
/-! SUPPORT. The table of decode words (30_encoding.md R63, R64, R65) read against the decoder: every word matches the row of
the operation it decodes to, and no word matches two rows. So a word decodes to an operation exactly when it matches that
operation's row, and what decoder and encoder owe each other follows from the form of a row alone. -/

namespace Sys2Proof

open Laws

/-! ## Words and their fields -/

theorem fwOf_fields (w : DecodeWord .fsm) :
    fwOf (fwRst w) (fwSt w) (fwStart w) (fwEcho w) (fwExpired w) (fwPc w) = w := by
  revert w; decide

theorem fwPc_toNat (w : DecodeWord .fsm) : (fwPc w).toNat = w.toNat % 4 := by
  simp [fwPc]

/-! ## Rows -/

theorem matchesPattern_iff {f : Format} {i : Instr} {w : DecodeWord f} :
    matchesPattern f i w = true ↔ ∃ bits mask, pattern f i = some (bits, mask) ∧ w &&& mask = bits := by
  unfold matchesPattern
  cases pattern f i with
  | none => simp
  | some row =>
    obtain ⟨bits, mask⟩ := row
    refine ⟨fun h => ⟨bits, mask, rfl, beq_iff_eq.mp h⟩, fun ⟨_, _, hrow, h⟩ => ?_⟩
    cases hrow
    exact beq_iff_eq.mpr h

theorem encode_of_pattern {f : Format} {i : Instr} {bits mask : DecodeWord f} (h : pattern f i = some (bits, mask))
    (fill : DecodeWord f) : encode f i fill = some (bits ||| (fill &&& ~~~mask)) := by
  simp [encode, h]

theorem encode_of_no_pattern {f : Format} {i : Instr} (h : pattern f i = none) (fill : DecodeWord f) :
    encode f i fill = none := by
  simp [encode, h]

/-- The rows cover every word: each of the 4, 4 and 512 words matches the row of its operation. -/
theorem matchesPattern_decode (f : Format) (w : DecodeWord f) : matchesPattern f (decode f w) w = true := by
  revert w
  cases f <;> decide

/-- The twenty operations (R67). -/
def instrs : List Instr :=
  [.reset, .msDiv, .msWrap, .cntHold, .cntInc, .idleHold, .idleStart, .trigLow, .trigHigh, .trigEnd, .risePoll, .riseEdge,
    .riseTimeout, .timingArm, .fallPoll, .fallEdge, .fallTimeout, .resHold, .resStart, .badRecover]

theorem mem_instrs (i : Instr) : i ∈ instrs := by cases i <;> decide

/-- Whether the rows of `i` and `j` agree in the bits that both of them fix. -/
def rowsMeet (f : Format) (i j : Instr) : Bool :=
  match pattern f i, pattern f j with
  | some (bits, mask), some (bits', mask') => bits &&& mask' == bits' &&& mask
  | _, _ => false

theorem rowsMeet_of_common_word {f : Format} {i j : Instr} {w : DecodeWord f} (hi : matchesPattern f i w = true)
    (hj : matchesPattern f j w = true) : rowsMeet f i j = true := by
  obtain ⟨bits, mask, hpi, rfl⟩ := matchesPattern_iff.mp hi
  obtain ⟨bits', mask', hpj, rfl⟩ := matchesPattern_iff.mp hj
  simp only [rowsMeet, hpi, hpj, beq_iff_eq]
  rw [BitVec.and_assoc, BitVec.and_comm mask, ← BitVec.and_assoc]

theorem eq_of_rowsMeet {f : Format} {i j : Instr} (h : rowsMeet f i j = true) : i = j := by
  have hpairs : ∀ i ∈ instrs, ∀ j ∈ instrs, rowsMeet f i j = true → i = j := by cases f <;> decide
  exact hpairs i (mem_instrs i) j (mem_instrs j) h

/-- R64: the rows are disjoint and cover all words, so the row a word matches is the operation it decodes to. -/
theorem decode_eq_iff {f : Format} {w : DecodeWord f} {i : Instr} :
    decode f w = i ↔ matchesPattern f i w = true := by
  refine ⟨fun h => h ▸ matchesPattern_decode f w, fun h => ?_⟩
  exact eq_of_rowsMeet (rowsMeet_of_common_word (matchesPattern_decode f w) h)

/-! ## Well-formed operations are those with a row -/

theorem patternAgrees_all (f : Format) (i : Instr) : patternAgrees f i = true := by
  cases i
  exacts [HasPattern.reset f, HasPattern.msDiv f, HasPattern.msWrap f, HasPattern.cntHold f, HasPattern.cntInc f,
    HasPattern.idleHold f, HasPattern.idleStart f, HasPattern.trigLow f, HasPattern.trigHigh f, HasPattern.trigEnd f,
    HasPattern.risePoll f, HasPattern.riseEdge f, HasPattern.riseTimeout f, HasPattern.timingArm f,
    HasPattern.fallPoll f, HasPattern.fallEdge f, HasPattern.fallTimeout f, HasPattern.resHold f, HasPattern.resStart f,
    HasPattern.badRecover f]

/-- A well-formed operation has a row, whose match has no bit outside the mask. -/
theorem pattern_of_wellFormed {f : Format} {i : Instr} (h : i.wellFormed f = true) :
    ∃ bits mask, pattern f i = some (bits, mask) ∧ bits &&& ~~~mask = 0 := by
  have hagree := patternAgrees_all f i
  unfold patternAgrees at hagree
  split at hagree
  next bits mask hrow => exact ⟨bits, mask, hrow, by simpa [h] using hagree⟩
  next => simp [h] at hagree

theorem wellFormed_of_pattern {f : Format} {i : Instr} {row : DecodeWord f × DecodeWord f}
    (h : pattern f i = some row) : i.wellFormed f = true := by
  have hagree := patternAgrees_all f i
  simp only [patternAgrees, h, Bool.and_eq_true] at hagree
  exact hagree.1

theorem pattern_eq_none_of_not_wellFormed {f : Format} {i : Instr} (h : i.wellFormed f = false) :
    pattern f i = none := by
  refine Option.eq_none_iff_forall_ne_some.mpr fun row hrow => ?_
  rw [wellFormed_of_pattern hrow] at h
  cases h

/-! ## Encoder and decoder -/

theorem and_mask_of_filled {n : Nat} {bits mask : BitVec n} (h : bits &&& ~~~mask = 0) (fill : BitVec n) :
    (bits ||| (fill &&& ~~~mask)) &&& mask = bits := by
  ext k hk
  have hbit : bits[k] = true → mask[k] = true := by simpa [hk] using congrArg (·[k]) h
  cases hm : mask[k] <;> simp_all

/-- A filling keeps to the bits outside the mask, so the word is one of its operation's row. -/
theorem decode_encode {f : Format} {i : Instr} (h : i.wellFormed f = true) (fill : DecodeWord f) :
    ∃ w, encode f i fill = some w ∧ decode f w = i := by
  obtain ⟨bits, mask, hrow, hbits⟩ := pattern_of_wellFormed h
  refine ⟨_, encode_of_pattern hrow fill, decode_eq_iff.mpr (matchesPattern_iff.mpr ⟨bits, mask, hrow, ?_⟩)⟩
  exact and_mask_of_filled hbits fill

/-- A word is its row's bits where its row has any, and its own elsewhere. -/
theorem encode_decode (f : Format) (w : DecodeWord f) :
    (decode f w).wellFormed f = true ∧ encode f (decode f w) w = some w := by
  obtain ⟨bits, mask, hrow, rfl⟩ := matchesPattern_iff.mp (matchesPattern_decode f w)
  refine ⟨wellFormed_of_pattern hrow, ?_⟩
  rw [encode_of_pattern hrow, ← BitVec.and_or_distrib_left]
  simp

/-! ## Numbers and bare table words (log 3, log 4) -/

theorem decodeNat_of_lt {f : Format} {w : Nat} (h : w < 2 ^ f.width) :
    decodeNat f w = .ok (decode f (BitVec.ofNat f.width w)) := if_pos h

theorem decodeNat_of_le {f : Format} {w : Nat} (h : 2 ^ f.width ≤ w) :
    decodeNat f w = .error (.bitsAboveWidth f) := if_neg (Nat.not_lt.mpr h)

theorem decodeTableWord_of_lt {nbits w : Nat} (h : w < 2 ^ (tableFormat nbits).width) :
    decodeTableWord nbits w = some (decode (tableFormat nbits) (BitVec.ofNat _ w)) := by
  rw [decodeTableWord, decodeNat_of_lt h]

theorem decodeTableWord_of_le {nbits w : Nat} (h : 2 ^ (tableFormat nbits).width ≤ w) :
    decodeTableWord nbits w = none := by
  rw [decodeTableWord, decodeNat_of_le h]

end Sys2Proof
end

section
/-! The statements about the tables of decode words that hold (30_encoding.md R63, R64, R65, R67). -/

namespace Sys2Proof.Proofs

open Sys2Proof.Machine

/-- Settles O28: the encoder's word lies in its operation's row, and the decoder answers the operation whose row the word
lies in. -/
theorem decodeAndEncodeAgree : Obligations.DecodeAndEncodeAgree :=
  ⟨fun _ _ fill hwf => decode_encode hwf fill, encode_decode,
    fun _ _ fill hwf => encode_of_no_pattern (pattern_eq_none_of_not_wellFormed hwf) fill⟩

/-- Settles O25: the fields of `MW` are `rst` and `wrap`, and `wrap` compares the divider with 999. -/
theorem msWordSelectsTheDividerOperation : Obligations.MsWordSelectsTheDividerOperation := by
  refine ⟨fun iv s => ⟨mwRst_mwOf _ _, ?_⟩, by decide, by decide, by decide, by decide⟩
  have hwrap : (msWord iv s).getLsbD 0 = wraps s.msDiv := mwWrap_mwOf _ _
  rw [hwrap, wraps_iff]

/-- Settles O26: the fields of `CW` are `rst` and `run`. -/
theorem cntWordSelectsTheCounterOperation : Obligations.CntWordSelectsTheCounterOperation :=
  ⟨fun _ _ => ⟨cwRst_cwOf _ _, cwRun_cwOf _ _⟩, by decide, by decide, by decide, by decide⟩

/-- Settles O29, by decoding the nine words. -/
theorem writtenWordsDecode : Obligations.WrittenWordsDecode := by
  unfold Obligations.WrittenWordsDecode
  decide

/-- Settles O30: a number below the width's bound is decoded in the format of its length, any other is rejected. -/
theorem tableWordsAreReadOrRejected : Obligations.TableWordsAreReadOrRejected :=
  ⟨fun _ h => decodeTableWord_of_lt (nbits := 16) h, fun _ h => decodeTableWord_of_lt (nbits := 8) h,
    fun _ h => ⟨decodeTableWord_of_le (nbits := 16) h, decodeNat_of_le h⟩,
    fun _ h => ⟨decodeTableWord_of_le (nbits := 8) h, decodeNat_of_le h⟩⟩

end Sys2Proof.Proofs
end

section
/-! SUPPORT. The words of one tick (30_encoding.md R63 to R66): which state the FSM unit forms its word from, and that the
arrangement of `withFetchWord` (log 2) makes a given word the word that is formed. -/

namespace Sys2Proof.Machine

/-! ## The state the FSM unit receives -/

/-- R111: the tick source after the MS unit. -/
theorem State.counted_msNow (s : State) : s.counted.msNow = millisNext s := by
  simp [← cntNext_msNext_eq]

/-- R66: the MS and CNT units come first, and at a reset tick neither runs. -/
theorem State.atFsm_eq (s : State) :
    s.atFsm = .next (if ivRst s.input then s.takeInput else s.counted) := by
  unfold State.atFsm
  cases hr : ivRst s.input with
  | true => rfl
  | false => simp [runMsUnit_eq hr, runCntUnit_eq hr, cntNext_msNext_eq]

theorem atFsm_of_run {s : State} (h : ivRst s.input = false) : s.atFsm = .next s.counted := by
  simp [State.atFsm_eq, h]

theorem fsmOp_of_atFsm {s u : State} (h : s.atFsm = .next u) :
    s.fsmOp = some (decode .fsm (fsmWord s.input u)) := by
  simp [State.fsmOp, h]

/-- R64: the operation of a tick without reset, selected from what the counting units leave. -/
theorem fsmOp_of_counted {s : State} (h : ivRst s.input = false) :
    s.fsmOp = some (fsmSelect s.input s.counted) := by
  rw [fsmOp_of_run h, cntNext_msNext_eq]

/-! ## The phase class (R64) -/

theorem phaseClass_eq (ph : Phase) :
    phaseClass ph = if ph.toNat < 1 then Pc.low else if ph.toNat ≤ 10 then Pc.high else Pc.ended := by
  split_ifs with hlow hhigh
  · exact phaseClass_low hlow
  · exact phaseClass_high (Nat.le_of_not_lt hlow) hhigh
  · exact phaseClass_ended (Nat.lt_of_not_le hhigh)

theorem phaseClass_ne_three (ph : Phase) : phaseClass ph ≠ 3 := by
  rw [phaseClass_eq]
  split_ifs <;> decide

/-! ## Arranging a word (log 2) -/

theorem phaseClass_phaseFor {pc : PhaseClass} (h : pc ≠ 3) (ph : Phase) : phaseClass (phaseFor pc ph) = pc := by
  unfold phaseFor
  split_ifs with hkeep hlow hhigh
  · exact hkeep
  · rw [hlow]; rfl
  · rw [hhigh]; rfl
  · clear hkeep
    revert pc
    decide

/-- The class 3 that no phase has is met by `END`, which selects the same operation (R69, log 5). -/
theorem phaseClass_phaseFor_three (ph : Phase) : phaseClass (phaseFor 3 ph) = Pc.ended := by
  rw [phaseFor, if_neg (phaseClass_ne_three ph)]
  rfl

theorem selectFsm_phaseFor (r : Bit) (c : StCode) (a e x : Bit) (pc : PhaseClass) (ph : Phase) :
    selectFsm r c a e x (phaseClass (phaseFor pc ph)) = selectFsm r c a e x pc := by
  by_cases h : pc = 3
  · subst h
    rw [phaseClass_phaseFor_three]
    rfl
  · rw [phaseClass_phaseFor h]

theorem expired_latchFor (b : Bit) (now t0 : Millis) : expired now (latchFor b now t0) = b := by
  unfold latchFor
  split_ifs with hkeep hb
  · exact hkeep
  · rw [hb, expired_iff]; bv_omega
  · simp [hb, expired, elapsedMs]

theorem wraps_dividerFor (b : Bit) (d : Divider) : wraps (dividerFor b d) = b := by
  unfold dividerFor
  split_ifs with hkeep hb
  · exact hkeep
  · rw [hb]; rfl
  · rw [Bool.eq_false_iff.mpr hb]; rfl

theorem withFetchWord_fsm (s : State) {w : Nat} (h : w < 512) :
    s.withFetchWord 16 w = placeFsmWord (BitVec.ofNat 9 w) s := if_pos h

theorem withFetchWord_unit (s : State) {w : Nat} (h : w < 4) :
    s.withFetchWord 8 w = placeUnitWord (BitVec.ofNat 2 w) s := if_pos h

theorem input_placeFsmWord (w : DecodeWord .fsm) (s : State) :
    (placeFsmWord w s).input = ivOf (fwRst w) (fwStart w) (fwEcho w) := by
  simp [placeFsmWord, State.input]

theorem input_placeUnitWord (w : DecodeWord .ms) (s : State) :
    (placeUnitWord w s).input = ivOf (mwRst w) false false := by
  simp [placeUnitWord, State.input]

/-- The word formed after `placeFsmWord` is the placed one, but for a phase class of 3. -/
theorem fsmWord_placeFsmWord (w : DecodeWord .fsm) (s : State) :
    ∃ u, (placeFsmWord w s).atFsm = .next u ∧
      fsmWord (placeFsmWord w s).input u =
        fwOf (fwRst w) (fwSt w) (fwStart w) (fwEcho w) (fwExpired w) (phaseClass (phaseFor (fwPc w) s.ph)) := by
  refine ⟨_, State.atFsm_eq _, ?_⟩
  simp only [fsmWord, input_placeFsmWord, ivRst_ivOf, ivStart_ivOf, ivEcho_ivOf]
  cases hr : fwRst w with
  | true =>
    have hx := expired_latchFor (fwExpired w) s.msNow s.t0
    simp [placeFsmWord, hr, hx]
  | false =>
    have hx := expired_latchFor (fwExpired w) (millisNext s) s.t0
    have hnow : millisNext (placeFsmWord w s) = millisNext s := rfl
    simp only [State.counted_msNow, hnow, State.counted_st, State.counted_ph, State.counted_t0, if_false, Bool.false_eq_true]
    simp [placeFsmWord, hr, hx]

theorem fsmOp_placeFsmWord (w : DecodeWord .fsm) (s : State) : (placeFsmWord w s).fsmOp = some (decode .fsm w) := by
  obtain ⟨u, hu, hword⟩ := fsmWord_placeFsmWord w s
  rw [fsmOp_of_atFsm hu, hword, decode_fwOf, selectFsm_phaseFor]
  rfl

theorem msOp_placeUnitWord (w : DecodeWord .ms) (s : State) : (placeUnitWord w s).msOp = decode .ms w := by
  rw [State.msOp, msWord, input_placeUnitWord, ivRst_ivOf, decode_mwOf]
  exact congrArg (selectMs (mwRst w)) (wraps_dividerFor _ _)

theorem cntOp_placeUnitWord (w : DecodeWord .ms) (s : State) : (placeUnitWord w s).cntOp = decode .cnt w := by
  rw [State.cntOp, cntWord, input_placeUnitWord, ivRst_ivOf, decode_cwOf]
  rfl

end Sys2Proof.Machine
end

section
/-! The statements about the words of a tick that hold (30_encoding.md R64, R66). -/

namespace Sys2Proof.Proofs

open Sys2Proof.Machine

/-- Settles O27: the fields are read off the word as it is formed, and the rows of R64 are disjoint and cover all words. -/
theorem fsmWordSelectsByItsPattern : Obligations.FsmWordSelectsByItsPattern := by
  refine ⟨fun iv s => ?_, fun s hr => ?_, fun w i => decode_eq_iff⟩
  · have hx : (fsmWord iv s).getLsbD 2 = expired s.msNow s.t0 := fwExpired_fwOf ..
    refine ⟨fwRst_fwOf .., fwSt_fwOf .., fwStart_fwOf .., fwEcho_fwOf .., ?_, fwPc_fwOf .., phaseClass_low,
      phaseClass_high, phaseClass_ended, phaseClass_ne_three s.ph⟩
    rw [hx, expired_iff]
  · have hu : s.atFsm = .next s.counted := atFsm_of_run hr
    exact ⟨s.counted, hu, rfl, rfl, rfl, rfl, fsmOp_of_atFsm hu⟩

/-- Settles O31: the arranged registers and sample give each field of the word the value asked for, the phase class 3 apart,
and that selects what `END` selects. -/
theorem placedWordIsFormedAndExecuted : Obligations.PlacedWordIsFormedAndExecuted := by
  refine ⟨fun s w hw => ?_, fun s w hw => ?_⟩
  · rw [withFetchWord_fsm s hw]
    refine ⟨fsmOp_placeFsmWord _ s, fun hclass => ?_⟩
    obtain ⟨u, hu, hword⟩ := fsmWord_placeFsmWord (BitVec.ofNat 9 w) s
    have hpc : fwPc (BitVec.ofNat 9 w) ≠ 3 := fun h => by
      have hnat := congrArg BitVec.toNat h
      rw [fwPc_toNat, BitVec.toNat_ofNat, Nat.mod_eq_of_lt (show w < 2 ^ Format.fsm.width from hw)] at hnat
      exact hclass hnat
    exact ⟨u, hu, by rw [hword, phaseClass_phaseFor hpc, fwOf_fields]⟩
  · rw [withFetchWord_unit s hw]
    exact ⟨msOp_placeUnitWord _ s, cntOp_placeUnitWord _ s⟩

/-- Settles O14: at a reset tick `FW` selects `RESET` alone; otherwise the three units run in order, on what `msNext` and
`counted` leave. -/
theorem stepRunsTheDecodedOperations : Obligations.StepRunsTheDecodedOperations := by
  refine fun s => ⟨⟨_, step_eq s⟩, fun hr => ⟨?_, step_of_rst hr⟩, fun hr => ?_⟩
  · have hrst : ivRst s.input = true := hr
    simp [fsmWord, selectFsm, hrst]
  · have hrst : ivRst s.input = false := hr
    refine ⟨msNext s.takeInput, s.counted, runMsUnit_eq hrst _, ?_, ?_, ?_, by simp, rfl, rfl, rfl, ?_, ?_⟩
    · rw [msWord, decode_mwOf, hrst]
      simp only [selectMs, wraps_iff]
      rfl
    · rw [← cntNext_msNext_eq]; exact runCntUnit_eq hrst _
    · rw [cntWord, decode_cwOf, hrst]
      rfl
    · rw [step_eq, tickAfter_of_run hrst]
      exact (runFsmUnit_eq s.input s.counted).symm
    · rw [fsmWord, hrst, phaseClass_eq]
      rfl

end Sys2Proof.Proofs
end

section
/-! SUPPORT. The next-state table (30_encoding.md R68): the operation each state code selects, the code each operation
leaves, and the results a cycle ends with (R62). -/

namespace Sys2Proof.Machine

/-! ## The operation selected in each state code (R64), at a tick without reset -/

theorem State.deadlinePassed_iff (s : State) :
    s.deadlinePassed ↔ expired s.counted.msNow s.t0 = true := (expired_iff _ _).symm

section

variable {s : State} (hr : ivRst s.input = false)
include hr

theorem fsmSelect_of_idle (code : s.st = St.idle) :
    fsmSelect s.input s.counted = if ivStart s.input then .idleStart else .idleHold := by
  simp [fsmSelect, selectFsm, hr, code]

theorem fsmSelect_of_triggering (code : s.st = St.triggering) :
    fsmSelect s.input s.counted =
      if s.ph.toNat ≤ 10 then if s.ph.toNat = 0 then .trigLow else .trigHigh else .trigEnd := by
  split_ifs with h10 h0
  · simp [fsmSelect, selectFsm, hr, code, phaseClass_low (ph := s.ph) (by omega)]
  · simp [fsmSelect, selectFsm, hr, code, phaseClass_high (ph := s.ph) (by omega) h10]
  · simp [fsmSelect, selectFsm, hr, code, phaseClass_ended (ph := s.ph) (by omega)]

theorem fsmSelect_of_waitEchoRise (code : s.st = St.waitEchoRise) :
    fsmSelect s.input s.counted =
      if ivEcho s.input then .riseEdge
      else if expired s.counted.msNow s.t0 then .riseTimeout else .risePoll := by
  cases he : ivEcho s.input <;> cases hx : expired s.counted.msNow s.t0 <;>
    simp [fsmSelect, selectFsm, hr, code, he, hx]

theorem fsmSelect_of_timing (code : s.st = St.timing) : fsmSelect s.input s.counted = .timingArm := by
  simp [fsmSelect, selectFsm, hr, code]

theorem fsmSelect_of_waitEchoFall (code : s.st = St.waitEchoFall) :
    fsmSelect s.input s.counted =
      if ivEcho s.input then if expired s.counted.msNow s.t0 then .fallTimeout else .fallPoll else .fallEdge := by
  cases he : ivEcho s.input <;> cases hx : expired s.counted.msNow s.t0 <;>
    simp [fsmSelect, selectFsm, hr, code, he, hx]

theorem fsmSelect_of_resolved (code : s.st = St.resolved) :
    fsmSelect s.input s.counted = if ivStart s.input then .resStart else .resHold := by
  simp [fsmSelect, selectFsm, hr, code]

theorem fsmSelect_of_reserved (code : s.st = 6 ∨ s.st = 7) : fsmSelect s.input s.counted = .badRecover := by
  obtain code | code := code <;> simp [fsmSelect, selectFsm, hr, code]

end

theorem selectFsm_eq_badRecover {r a e x : Bit} {c : StCode} {p : PhaseClass}
    (h : selectFsm r c a e x p = .badRecover) : 6 ≤ c.toNat := by
  revert r c a e x p; decide

/-! ## The next state code -/

/-- A row of R68: what the row's operation leaves in `st` is the next state code. -/
theorem row_of_fsmSelect {s : State} {op : Instr} {c : StCode} (hr : ivRst s.input = false)
    (hop : fsmSelect s.input s.counted = op) (hc : (after op s.counted).st = c) :
    s.fsmOp = some op ∧ (tickAfter s).st = c := by
  rw [fsmOp_of_counted hr, tickAfter_of_run hr, hop]
  exact ⟨rfl, hc⟩

/-- Only `RESET` and `BAD.RECOVER` enter `IDLE`; the codes that the other operations write are 1 to 5. -/
theorem after_st_cases {i : Instr} (hreset : i ≠ .reset) (hbad : i ≠ .badRecover) (s : State) :
    (after i s).st = s.st ∨ 1 ≤ (after i s).st.toNat ∧ (after i s).st.toNat ≤ 5 := by
  cases i
  case reset => exact absurd rfl hreset
  case badRecover => exact absurd rfl hbad
  case idleStart | resStart | trigEnd | riseEdge | riseTimeout | timingArm | fallTimeout | fallEdge =>
    exact .inr (by simp [beginCycle_eq, resolveInvalid_eq])
  all_goals exact .inl rfl

/-- A cycle does not enter `IDLE` again without a reset, nor a reserved code. -/
theorem tickAfter_st_of_cycle {s : State} (hr : ivRst s.input = false) (hlo : 1 ≤ s.st.toNat) (hhi : s.st.toNat ≤ 5) :
    1 ≤ (tickAfter s).st.toNat ∧ (tickAfter s).st.toNat ≤ 5 := by
  have hreset : fsmSelect s.input s.counted ≠ .reset := fun h =>
    fsmSelect_not_mem_units hr s.counted (by simp [h])
  have hbad : fsmSelect s.input s.counted ≠ .badRecover := fun h => by
    have hcode := selectFsm_eq_badRecover h
    rw [State.counted_st] at hcode
    omega
  rw [tickAfter_of_run hr]
  obtain hkept | hwritten := after_st_cases hreset hbad s.counted
  · rw [hkept]; exact ⟨hlo, hhi⟩
  · exact hwritten

/-! ## The results of a cycle (R62) -/

/-- `RESOLVED` is entered by the three operations that resolve. -/
theorem enters_resolved {i : Instr} {s : State} (hs : s.st ≠ St.resolved) (h : (after i s).st = St.resolved) :
    i = .riseTimeout ∨ i = .fallEdge ∨ i = .fallTimeout := by
  have hs5 : ¬ s.st = 5#3 := hs
  revert h
  cases i <;> simp [hs5, beginCycle_eq, recoverIdle_eq]

/-- R95, R101: a plausible count is the valid result. -/
theorem resolveMeasured_plausible {u : State} (h : 118 ≤ u.cnt.toNat ∧ u.cnt.toNat ≤ 23529) :
    (resolveMeasured (convert u.cnt) u).ResultValid := by
  rw [resolveMeasured, if_pos ((plausible_convert_iff u.cnt).mpr h)]
  exact ⟨rfl, rfl, toNat_setWidth_convert h.2, h.1, h.2⟩

/-- R95, R122: any other count is the sentinel of `OUT_OF_RANGE`. -/
theorem resolveMeasured_implausible {u : State} (h : ¬ (118 ≤ u.cnt.toNat ∧ u.cnt.toNat ≤ 23529)) :
    (resolveMeasured (convert u.cnt) u).ResultSentinel ∧
      (resolveMeasured (convert u.cnt) u).cause = Cause.outOfRange := by
  rw [resolveMeasured, if_neg (mt (plausible_convert_iff u.cnt).mp h)]
  exact ⟨⟨rfl, rfl⟩, rfl⟩

/-- R62, R103: an entry into `RESOLVED` leaves a valid result or one of the three sentinels. -/
theorem result_of_enters_resolved {i : Instr} {s : State} (hs : s.st ≠ St.resolved)
    (h : (after i s).st = St.resolved) :
    (after i s).ResultValid ∨ (after i s).ResultSentinel ∧
      ((after i s).cause = Cause.timeoutRise ∨ (after i s).cause = Cause.timeoutFall ∨
        (after i s).cause = Cause.outOfRange) := by
  obtain rfl | rfl | rfl := enters_resolved hs h
  · exact .inr ⟨⟨rfl, rfl⟩, .inl rfl⟩
  · by_cases hp : 118 ≤ s.cnt.toNat ∧ s.cnt.toNat ≤ 23529
    · exact .inl (resolveMeasured_plausible (u := stopCounter s) hp)
    · obtain ⟨hsentinel, hcause⟩ := resolveMeasured_implausible (u := stopCounter s) hp
      exact .inr ⟨hsentinel, .inr (.inr hcause)⟩
  · exact .inr ⟨⟨rfl, rfl⟩, .inr (.inl rfl)⟩

end Sys2Proof.Machine
end

section
/-! The statements about the next state and the results of a cycle that hold (30_encoding.md R62, R68). -/

namespace Sys2Proof.Proofs

open Sys2Proof.Machine

/-- Settles O15, row by row. -/
theorem nextStateTable : Obligations.NextStateTable := by
  refine fun s => ⟨tickAfter s, step_eq s, tickAfter_st_of_rst, fun (hr : ivRst s.input = false) => ?_⟩
  refine ⟨fun code ha => ?_, fun code ha => ?_, fun code hph => ?_, fun code hph => ?_, fun code he => ?_,
    fun code he hx => ?_, fun code he hx => ?_, fun code => ?_, fun code he => ?_, fun code he hx => ?_,
    fun code he hx => ?_, fun code ha => ?_, fun code ha => ?_, fun code => ?_, tickAfter_st_of_cycle hr⟩
  · exact row_of_fsmSelect hr ((fsmSelect_of_idle hr code).trans (if_neg (ne_true_of_eq_false ha))) code
  · exact row_of_fsmSelect hr ((fsmSelect_of_idle hr code).trans (if_pos ha)) rfl
  · exact row_of_fsmSelect hr ((fsmSelect_of_triggering hr code).trans (if_pos hph)) (by split <;> exact code)
  · exact row_of_fsmSelect hr ((fsmSelect_of_triggering hr code).trans (if_neg (Nat.not_le.mpr hph))) rfl
  · exact row_of_fsmSelect hr ((fsmSelect_of_waitEchoRise hr code).trans (if_pos he)) rfl
  · exact row_of_fsmSelect hr ((fsmSelect_of_waitEchoRise hr code).trans
      ((if_neg (ne_true_of_eq_false he)).trans (if_pos (s.deadlinePassed_iff.mp hx)))) rfl
  · exact row_of_fsmSelect hr ((fsmSelect_of_waitEchoRise hr code).trans
      ((if_neg (ne_true_of_eq_false he)).trans (if_neg (mt s.deadlinePassed_iff.mpr hx)))) code
  · exact row_of_fsmSelect hr (fsmSelect_of_timing hr code) rfl
  · exact row_of_fsmSelect hr ((fsmSelect_of_waitEchoFall hr code).trans (if_neg (ne_true_of_eq_false he)))
      (resolveMeasured_st _ _)
  · exact row_of_fsmSelect hr ((fsmSelect_of_waitEchoFall hr code).trans
      ((if_pos he).trans (if_pos (s.deadlinePassed_iff.mp hx)))) rfl
  · exact row_of_fsmSelect hr ((fsmSelect_of_waitEchoFall hr code).trans
      ((if_pos he).trans (if_neg (mt s.deadlinePassed_iff.mpr hx)))) code
  · exact row_of_fsmSelect hr ((fsmSelect_of_resolved hr code).trans (if_neg (ne_true_of_eq_false ha))) code
  · exact row_of_fsmSelect hr ((fsmSelect_of_resolved hr code).trans (if_pos ha)) rfl
  · exact row_of_fsmSelect hr (fsmSelect_of_reserved hr code) rfl

/-- Settles O42: a busy block is not in `RESOLVED`, so the tick enters it, by one of the three operations that resolve. -/
theorem cyclesEndInFourKindsOfResult : Obligations.CyclesEndInFourKindsOfResult := by
  intro s t _ hbusy hstep hdone
  rw [step_eq] at hstep
  cases hstep
  have hcode : (tickAfter s).st = St.resolved := (State.done_iff _).mp hdone
  have hs : s.st ≠ St.resolved := fun h => by simp [State.busy_iff, h] at hbusy
  cases hr : ivRst s.input with
  | true => simp [tickAfter_st_of_rst hr] at hcode
  | false =>
    rw [tickAfter_of_run hr] at hcode ⊢
    obtain ⟨hvalid, hcause, hdist, hlo, hhi⟩ | ⟨⟨hdist, hvalid⟩, hcause⟩ :=
      result_of_enters_resolved (s := s.counted) hs hcode
    · exact .inl ⟨hvalid, hcause, hdist, hlo, hhi⟩
    · exact .inr ⟨hvalid, hdist, hcause⟩

end Sys2Proof.Proofs
end

section
/-! SUPPORT. Runs over stimulus lines (30_encoding.md R71), one line or a part of one at a time, and the stages of a cycle
that is stimulated by `MEASURE`. -/

namespace Sys2Proof.Machine

/-! ## What the environment presents -/

/-- The samples to come are those of `ls`; a line of no tick makes no difference (log 6). -/
def State.Presents (s : State) (ls : List StimLine) : Prop := nextSample s.lines = nextSample ls

section

variable {s : State} {iv : InputVector} {rest : List StimLine}

theorem State.Presents.skip (h : s.Presents (⟨0, iv⟩ :: rest)) : s.Presents rest := h

theorem State.Presents.input {n : Nat} (h : s.Presents (⟨n + 1, iv⟩ :: rest)) : s.input = iv := by
  unfold State.input
  rw [h]
  cases n <;> rfl

theorem State.Presents.tick {n : Nat} (h : s.Presents (⟨n + 1, iv⟩ :: rest)) :
    (tickAfter s).Presents (⟨n, iv⟩ :: rest) := by
  unfold State.Presents
  rw [tickAfter_lines, State.takeInput, h]
  cases n <;> rfl

theorem State.Presents.last (h : s.Presents (⟨1, iv⟩ :: rest)) : (tickAfter s).lines = rest := by
  rw [tickAfter_lines, State.takeInput, h]
  rfl

end

theorem runTicks_trans {m n : Nat} {s t u : State} (hst : runTicks m s = .next t) (htu : runTicks n t = .next u) :
    runTicks (m + n) s = .next u := by
  rw [runTicks_add, hst]
  exact htu

/-- Over `m` ticks of a line, a property `P k` that each tick with the line's vector carries from `k` to `k + 1` is carried
from 0 to `m`. -/
theorem State.Presents.runTicks {P : Nat → State → Prop} {m n : Nat} {iv : InputVector} {rest : List StimLine}
    {s : State} (h : s.Presents (⟨m + n, iv⟩ :: rest)) (hstart : P 0 s)
    (hstep : ∀ k u, k < m → u.input = iv → P k u → P (k + 1) (Machine.tickAfter u)) :
    ∃ t, runTicks m s = .next t ∧ t.Presents (⟨n, iv⟩ :: rest) ∧ P m t := by
  induction m generalizing n with
  | zero => exact ⟨s, rfl, by simpa using h, hstart⟩
  | succ m ih =>
    rw [Nat.add_assoc, Nat.add_comm 1 n] at h
    obtain ⟨t, hrun, hlines, ht⟩ := ih h fun k u hk => hstep k u (Nat.lt_succ_of_lt hk)
    exact ⟨Machine.tickAfter t, runTicks_snoc hrun, hlines.tick, hstep m t m.lt_succ_self hlines.input ht⟩

/-! ## The stages of a measured cycle, each tick by tick -/

/-- `k` ticks of `TRIGGERING` have been executed. -/
structure State.PulseAt (k : Nat) (s : State) : Prop where
  code : s.st = St.triggering
  phase : s.ph.toNat = k

/-- The rise wait has polled `k` times since the latch. -/
structure State.RiseWaitAt (k : Nat) (s : State) : Prop where
  code : s.st = St.waitEchoRise
  divider : s.msDiv.toNat < 1000
  clock : s.waitClock ≤ 999 + k

/-- The rising edge has started the counter. -/
structure State.EdgeSeen (s : State) : Prop where
  code : s.st = St.timing
  running : s.run = true
  count : s.cnt = 0

/-- The counter shows `k` in the fall wait, `k - 1` ticks after the latch. -/
structure State.FallWaitAt (k : Nat) (s : State) : Prop where
  code : s.st = St.waitEchoFall
  running : s.run = true
  count : s.cnt.toNat = k
  divider : s.msDiv.toNat < 1000
  clock : s.waitClock ≤ 998 + k

theorem pulseAt_of_acceptsStart {s : State} (h : s.acceptsStart) : (tickAfter s).PulseAt 0 := by
  rw [tickAfter_of_acceptsStart h]
  exact ⟨rfl, rfl⟩

section

variable {k : Nat} {s : State} (hr : ivRst s.input = false)
include hr

/-- R82, R83. -/
theorem State.PulseAt.drive (h : s.PulseAt k) (hk : k < 11) : (tickAfter s).PulseAt (k + 1) := by
  have hdrive (b : Bit) : (driveTrigger b s.counted).PulseAt (k + 1) := by
    refine ⟨h.code, ?_⟩
    have hph := h.phase
    rw [driveTrigger_ph, State.counted_ph]
    bv_omega
  have hph := h.phase
  rw [tickAfter_of_triggering hr h.code]
  split_ifs with h0 h10
  · exact hdrive false
  · exact hdrive true
  · omega

/-- R84: the latch tick leaves a clock below one millisecond. -/
theorem State.PulseAt.latch (h : s.PulseAt 11) : (tickAfter s).RiseWaitAt 0 := by
  have hph := h.phase
  rw [tickAfter_of_triggering hr h.code, if_neg (by omega), if_neg (by omega)]
  have hlt := s.counted_msDiv_lt
  exact ⟨rfl, hlt, (State.waitClock_latchDeadline (restTrigger s.counted)).le.trans (Nat.le_of_lt_succ hlt)⟩

/-- R90: with a clock that started below 1000, 30000 polls meet no deadline. -/
theorem State.RiseWaitAt.poll (h : s.RiseWaitAt k) (hk : k < 30000) (he : ivEcho s.input = false) :
    (tickAfter s).RiseWaitAt (k + 1) := by
  have hclock := h.clock
  have hnext := State.waitClock_counted h.divider (by omega)
  have hx : ¬ expired s.counted.msNow s.t0 = true := by rw [State.expired_counted_iff]; omega
  rw [tickAfter_of_waitEchoRise hr h.code, he, if_neg Bool.false_ne_true, if_neg hx]
  exact ⟨h.code, s.counted_msDiv_lt, by omega⟩

/-- R91. -/
theorem State.RiseWaitAt.edge (h : s.RiseWaitAt k) (he : ivEcho s.input = true) : (tickAfter s).EdgeSeen := by
  rw [tickAfter_of_waitEchoRise hr h.code, if_pos he]
  exact ⟨rfl, rfl, rfl⟩

/-- R93: the arming tick counts 1 and latches the second deadline. -/
theorem State.EdgeSeen.arm (h : s.EdgeSeen) : (tickAfter s).FallWaitAt 1 := by
  have hlt := s.counted_msDiv_lt
  have hcount : s.counted.cnt.toNat = 1 := by simp [State.counted_cnt_of_running h.running, h.count]
  rw [tickAfter_of_timing hr h.code]
  exact ⟨rfl, h.running, hcount, hlt, (State.waitClock_latchDeadline s.counted).le.trans (Nat.le_of_lt_succ hlt)⟩

/-- R94: the fall wait counts, and 30000 polls meet no deadline. -/
theorem State.FallWaitAt.poll (h : s.FallWaitAt k) (hk : k ≤ 30000) (he : ivEcho s.input = true) :
    (tickAfter s).FallWaitAt (k + 1) := by
  have hclock := h.clock
  have hcount := h.count
  have hcount' := State.counted_cnt_toNat h.running (by omega)
  have hnext := State.waitClock_counted h.divider (by omega)
  have hx : ¬ expired s.counted.msNow s.t0 = true := by rw [State.expired_counted_iff]; omega
  rw [tickAfter_of_waitEchoFall hr h.code, if_pos he, if_neg hx]
  exact ⟨h.code, h.running, by omega, s.counted_msDiv_lt, by omega⟩

/-- R95: the falling edge reads a count one higher. -/
theorem State.FallWaitAt.edge (h : s.FallWaitAt k) (hk : k ≤ 31000) (he : ivEcho s.input = false) :
    s.fsmOp = some .fallEdge ∧ ∃ u, u.cnt.toNat = k + 1 ∧ tickAfter s = resolveMeasured (convert u.cnt) u := by
  have hlow := ne_true_of_eq_false he
  have hcount := h.count
  refine ⟨?_, stopCounter s.counted, ?_, ?_⟩
  · rw [fsmOp_of_counted hr, fsmSelect_of_waitEchoFall hr h.code, if_neg hlow]
  · rw [stopCounter_cnt, State.counted_cnt_toNat h.running (by omega), hcount]
  · rw [tickAfter_of_waitEchoFall hr h.code, if_neg hlow]
    rfl

end

/-! ## The parts of `MEASURE` -/

/-- R71, R85: `START 1 ; QUIET 12` takes a resting block to the beginning of the rise wait. -/
theorem runTicks_invoke {s : State} {ls : List StimLine} (hcode : s.st = 0 ∨ s.st = 5)
    (h : s.Presents (⟨1, 0b010⟩ :: ⟨12, 0b000⟩ :: ls)) :
    ∃ t, runTicks 13 s = .next t ∧ t.Presents ls ∧ t.RiseWaitAt 0 := by
  have hin : s.input = 0b010 := h.input
  have hstart : s.acceptsStart :=
    ⟨hcode, by rw [State.startAt, State.inputAt, hin]; rfl, by rw [State.rstAt, State.inputAt, hin]; rfl⟩
  have hlow : (tickAfter s).Presents (⟨11 + 1, 0b000⟩ :: ls) := h.tick.skip
  obtain ⟨t, hrun, hlines, ht⟩ := hlow.runTicks (pulseAt_of_acceptsStart hstart) fun k u hk hu hp =>
    hp.drive (by rw [hu]; rfl) hk
  have hrun' : runTicks 12 s = .next t := (runTicks_succ 11 s).trans hrun
  exact ⟨tickAfter t, runTicks_snoc hrun', hlines.tick.skip, ht.latch (by rw [hlines.input]; rfl)⟩

/-- R71, R97: `QUIET g ; ECHO w` takes the beginning of the rise wait to the fall wait's count `w - 1`. -/
theorem runTicks_pulse {s : State} {g c : Nat} {ls : List StimLine} (hs : s.RiseWaitAt 0) (hg : g ≤ 30000)
    (hc : c ≤ 30000) (h : s.Presents (⟨g, 0b000⟩ :: ⟨c + 2, 0b001⟩ :: ls)) :
    ∃ t, runTicks (g + (c + 2)) s = .next t ∧ t.Presents ls ∧ t.FallWaitAt (c + 1) := by
  obtain ⟨t, hrun, hlines, ht⟩ := State.Presents.runTicks (n := 0) h hs fun k u hk hu hp =>
    hp.poll (by rw [hu]; rfl) (by omega) (by rw [hu]; rfl)
  have hedge := hlines.skip
  have ht' := ht.edge (by rw [hedge.input]; rfl) (by rw [hedge.input]; rfl)
  have harm := hedge.tick
  have ht'' := ht'.arm (by rw [harm.input]; rfl)
  obtain ⟨u, hrun', hlines', hu⟩ :=
    State.Presents.runTicks (n := 0) (P := fun k u => u.FallWaitAt (k + 1)) harm.tick ht'' fun k u hk hu hp =>
      hp.poll (by rw [hu]; rfl) (by omega) (by rw [hu]; rfl)
  have hfirst : runTicks 2 t = .next (tickAfter (tickAfter t)) := by simp only [runTicks_succ, runTicks_zero]
  refine ⟨u, ?_, hlines'.skip, hu⟩
  rw [Nat.add_comm c 2]
  exact runTicks_trans hrun (runTicks_trans hfirst hrun')

end Sys2Proof.Machine
end

section
/-! The statement about the stimulus lines that holds (30_encoding.md R71). -/

namespace Sys2Proof.Proofs

open Sys2Proof.Machine

/-- Settles O52, by running the block over the five lines of the expansion. -/
theorem measureLineIsOneWholeCycle : Obligations.MeasureLineIsOneWholeCycle := by
  intro s g w rest hcode hlines hg hlo hhi
  obtain ⟨c, rfl⟩ := Nat.exists_eq_add_of_le' hlo
  refine ⟨by simp [ticksOf, encodeLines, expandPseudo, expandPulse, encodeLine]; omega, ?_⟩
  have hpresents : s.Presents (encodeLines (expandPseudo (.measure g (c + 2))) ++ rest) := congrArg nextSample hlines
  obtain ⟨u, hrunU, hlinesU, hu⟩ := runTicks_invoke hcode hpresents
  obtain ⟨v, hrunV, hlinesV, hv⟩ := runTicks_pulse hu hg (by omega) hlinesU
  have hrun : runTicks (13 + g + (c + 2)) s = .next v := by
    rw [Nat.add_assoc]
    exact runTicks_trans hrunU hrunV
  have hin : v.input = 0b000 := hlinesV.input
  obtain ⟨hop, x, hcnt, htick⟩ := hv.edge (by rw [hin]; rfl) (by omega) (by rw [hin]; rfl)
  have hrun' := runTicks_snoc hrun
  rw [show 13 + g + (c + 2) + 1 = 14 + g + (c + 2) by omega] at hrun'
  refine ⟨v, tickAfter v, hrun, hop, hrun', ?_, ?_, hlinesV.last, ?_⟩
  · rw [htick]; exact resolveMeasured_st _ _
  · rw [htick, resolveMeasured_cnt]; exact hcnt
  · rw [htick, ← hcnt]
    split_ifs with hp
    · have hvalid := resolveMeasured_plausible hp
      exact ⟨by rw [hvalid.product, resolveMeasured_cnt], hvalid.valid, hvalid.noCause⟩
    · obtain ⟨hsentinel, hcause⟩ := resolveMeasured_implausible hp
      exact ⟨hsentinel.dist, hsentinel.invalid, hcause⟩

end Sys2Proof.Proofs
end

section
/-! SUPPORT. What a tick reads (40_trigger.md R86, R87): states that agree in their registers step alike when the FSM unit
selects the same operation, so an input that the selection ignores influences no register. -/

namespace Sys2Proof.Machine

/-! ## States that agree in their registers -/

/-- The registers of `s` in another environment: only the model's own two fields differ (log 1). -/
def State.withEnvironment (s : State) (ls : List StimLine) (n : Nat) : State := { s with lines := ls, tick := n }

theorem sameRegisters_withEnvironment (s : State) (ls : List StimLine) (n : Nat) :
    sameRegisters s (s.withEnvironment ls n) :=
  ⟨rfl, rfl, rfl, rfl, rfl, rfl, rfl, rfl, rfl, rfl, rfl⟩

/-- States with the same registers differ in the environment only. -/
theorem eq_withEnvironment {s t : State} (h : sameRegisters s t) : t = s.withEnvironment t.lines t.tick := by
  obtain ⟨hst, hph, htrig, hcnt, hrun, ht0, hmsDiv, hmsNow, hdist, hvalid, hcause⟩ := h
  rw [State.withEnvironment, hst, hph, htrig, hcnt, hrun, ht0, hmsDiv, hmsNow, hdist, hvalid, hcause]

/-- Every operation reads and writes registers only. -/
theorem after_withEnvironment (i : Instr) (s : State) (ls : List StimLine) (n : Nat) :
    after i (s.withEnvironment ls n) = (after i s).withEnvironment ls n := by
  cases i
  case fallEdge =>
    simp only [after_fallEdge, resolveMeasured, apply_ite (State.withEnvironment · ls n)]
    rfl
  all_goals rfl

theorem after_sameRegisters {s t : State} (i : Instr) (h : sameRegisters s t) :
    sameRegisters (after i s) (after i t) := by
  rw [eq_withEnvironment h, after_withEnvironment]
  exact sameRegisters_withEnvironment ..

theorem counted_sameRegisters {s t : State} (h : sameRegisters s t) : sameRegisters s.counted t.counted := by
  rw [eq_withEnvironment h]
  exact sameRegisters_withEnvironment ..

/-- The selection of a tick reads the registers and the sample. -/
theorem fsmSelect_of_sameRegisters {s t : State} (iv : InputVector) (h : sameRegisters s t) :
    fsmSelect iv s.counted = fsmSelect iv t.counted := by
  rw [eq_withEnvironment h]
  rfl

/-- With the same registers, the same `rst` and the same selection a tick leaves the same registers. -/
theorem tickAfter_sameRegisters {s t : State} (h : sameRegisters s t) (hr : ivRst s.input = ivRst t.input)
    (hop : fsmSelect s.input s.counted = fsmSelect t.input t.counted) :
    sameRegisters (tickAfter s) (tickAfter t) := by
  cases hrst : ivRst t.input with
  | true =>
    rw [tickAfter_of_rst (hr.trans hrst), tickAfter_of_rst hrst]
    simp [sameRegisters]
  | false =>
    rw [tickAfter_of_run (hr.trans hrst), tickAfter_of_run hrst, hop]
    exact after_sameRegisters _ (counted_sameRegisters h)

/-! ## The inputs that the selection ignores (the letters of R64's patterns) -/

/-- R86: while busy no pattern has a `start` bit. -/
theorem selectFsm_ignores_start {r e x a a' : Bit} {c : StCode} {p : PhaseClass}
    (h : c = St.triggering ∨ c = St.waitEchoRise ∨ c = St.timing ∨ c = St.waitEchoFall) :
    selectFsm r c a e x p = selectFsm r c a' e x p := by
  obtain rfl | rfl | rfl | rfl := h <;> simp [selectFsm]

/-- R87: outside the two waits no pattern has an `echo` bit. -/
theorem selectFsm_ignores_echo {r a x e e' : Bit} {c : StCode} {p : PhaseClass}
    (h : c = St.idle ∨ c = St.triggering ∨ c = St.timing ∨ c = St.resolved) :
    selectFsm r c a e x p = selectFsm r c a e' x p := by
  obtain rfl | rfl | rfl | rfl := h <;> simp [selectFsm]

end Sys2Proof.Machine
end

section
/-! SUPPORT. The trigger line (40_trigger.md R85): one row of the timeline per phase, and that a resting line stays low until
the second tick after an accepted start. -/

namespace Sys2Proof.Machine

/-! ## The rows of the timeline -/

/-- R81, R105: tick 0 of a cycle. -/
theorem fsmOp_of_acceptsStart {s : State} (h : s.acceptsStart) :
    s.fsmOp = some (if s.st = St.idle then .idleStart else .resStart) := by
  obtain ⟨code, ha, hr⟩ := h
  have ha' : ivStart s.input = true := ha
  rw [fsmOp_of_counted hr]
  obtain code | code := code
  · rw [fsmSelect_of_idle hr code, if_pos ha', if_pos code]
  · rw [fsmSelect_of_resolved hr code, if_pos ha', if_neg (by simp [code])]

section

variable {k : Nat} {s : State} (hr : ivRst s.input = false)
include hr

/-- R82, R83, R84: the operation after `k` ticks of `TRIGGERING`. -/
theorem State.PulseAt.op (h : s.PulseAt k) :
    s.fsmOp = some (if k = 0 then .trigLow else if k < 11 then .trigHigh else .trigEnd) := by
  rw [fsmOp_of_counted hr, fsmSelect_of_triggering hr h.code, h.phase]
  by_cases h0 : k = 0
  · simp [h0]
  · simp [h0, Nat.lt_succ_iff (m := k) (n := 10)]

/-- R82, R83: the tick raises the trigger line at every phase but the first. -/
theorem State.PulseAt.drive_trig (h : s.PulseAt k) (hk : k < 11) : (tickAfter s).trig = decide (1 ≤ k) := by
  rw [tickAfter_of_triggering hr h.code, h.phase]
  by_cases h0 : k = 0
  · rw [if_pos h0, driveTrigger_trig, h0]; rfl
  · rw [if_neg h0, if_pos (Nat.le_of_lt_succ hk), driveTrigger_trig]
    exact (decide_eq_true (Nat.pos_of_ne_zero h0)).symm

/-- R84: the end of the pulse. -/
theorem State.PulseAt.tickAfter_of_end (h : s.PulseAt k) (hk : 11 ≤ k) :
    tickAfter s = goTo St.waitEchoRise (latchDeadline (restTrigger s.counted)) := by
  rw [tickAfter_of_triggering hr h.code, h.phase, if_neg (by omega), if_neg (by omega)]

end

/-- R85: without a reset the phase counts the ticks of the cycle up to 11, whatever `start` and `echo` do. -/
theorem pulseAt_runTicks {s : State} (h : s.acceptsStart) {k : Nat} (hk : k ≤ 11)
    (hrst : ∀ j, j ≤ 12 → s.rstAt j = false) : ∃ u, runTicks (k + 1) s = .next u ∧ u.PulseAt k := by
  induction k with
  | zero => exact ⟨_, runTicks_succ 0 s, pulseAt_of_acceptsStart h⟩
  | succ k ih =>
    obtain ⟨u, hrun, hu⟩ := ih (by omega)
    have hr : ivRst u.input = false := by rw [ivRst_input_runTicks hrun]; exact hrst _ (by omega)
    exact ⟨_, runTicks_snoc hrun, hu.drive hr (by omega)⟩

/-! ## The line outside the pulse -/

/-- The trigger line is low and no cycle is in `TRIGGERING`. -/
structure State.LineRests (s : State) : Prop where
  low : s.trig = false
  code : s.st ≠ St.triggering

theorem selectFsm_eq_trigHigh {r a e x : Bit} {c : StCode} {p : PhaseClass}
    (h : selectFsm r c a e x p = .trigHigh) : c = St.triggering := by
  unfold selectFsm at h
  repeat' split at h
  all_goals simp_all

/-- The two starts are selected in `IDLE` and in `RESOLVED` only, by a high `start` (R81, R105). -/
theorem selectFsm_eq_start {r a e x : Bit} {c : StCode} {p : PhaseClass}
    (h : selectFsm r c a e x p = .idleStart ∨ selectFsm r c a e x p = .resStart) :
    (c = St.idle ∨ c = St.resolved) ∧ a = true := by
  unfold selectFsm at h
  repeat' split at h
  all_goals simp_all

/-- `TRIGGERING` is entered by the two starts only. -/
theorem enters_triggering {i : Instr} {s : State} (hs : s.st ≠ St.triggering) (h : (after i s).st = St.triggering) :
    i = .idleStart ∨ i = .resStart := by
  have hs1 : ¬ s.st = 1#3 := hs
  revert h
  cases i <;> simp [hs1, resolveInvalid_eq, recoverIdle_eq]

/-- A tick enters `TRIGGERING` only by accepting a start. -/
theorem acceptsStart_of_enters_triggering {s : State} (hs : s.st ≠ St.triggering)
    (h : (tickAfter s).st = St.triggering) : s.acceptsStart := by
  cases hr : ivRst s.input with
  | true => simp [tickAfter_st_of_rst hr] at h
  | false =>
    rw [tickAfter_of_run hr] at h
    obtain ⟨code, ha⟩ := selectFsm_eq_start (enters_triggering (s := s.counted) hs h)
    exact ⟨code, ha, hr⟩

/-- R82, R83: a low line stays low at a tick that is not a later tick of the pulse. -/
theorem tickAfter_trig_low {s : State} (low : s.trig = false) (phase : s.st = St.triggering → s.ph = 0) :
    (tickAfter s).trig = false := by
  cases hr : ivRst s.input with
  | true => rw [tickAfter_of_rst hr]; rfl
  | false =>
    by_cases code : s.st = St.triggering
    · rw [tickAfter_of_triggering hr code, if_pos (by simp [phase code])]; rfl
    · rw [tickAfter_of_run hr]
      exact after_trig_of_ne_trigHigh (fun h => code (selectFsm_eq_trigHigh h)) low

theorem State.LineRests.tickAfter_low {s : State} (h : s.LineRests) : (tickAfter s).trig = false :=
  tickAfter_trig_low h.low fun code => absurd code h.code

/-- Without an accepted start the line stays at rest. -/
theorem State.LineRests.tickAfter {s : State} (h : s.LineRests) (hstart : ¬ s.acceptsStart) :
    (tickAfter s).LineRests :=
  ⟨h.tickAfter_low, fun code => hstart (acceptsStart_of_enters_triggering h.code code)⟩

/-- From rest the line is low after two ticks, even if the first of them accepts a start. -/
theorem State.LineRests.tickAfter_twice_low {s : State} (h : s.LineRests) :
    (Machine.tickAfter (Machine.tickAfter s)).trig = false := by
  refine tickAfter_trig_low h.tickAfter_low fun code => ?_
  rw [tickAfter_of_acceptsStart (acceptsStart_of_enters_triggering h.code code)]
  rfl

theorem State.LineRests.runTicks {s t : State} {n : Nat} (h : s.LineRests)
    (hquiet : ∀ j u, j < n → runTicks j s = .next u → ¬ u.acceptsStart) (hrun : runTicks n s = .next t) :
    t.LineRests := by
  induction n generalizing t with
  | zero => cases hrun; exact h
  | succ n ih =>
    obtain ⟨u, hu⟩ := runTicks_next n s
    rw [runTicks_snoc hu] at hrun
    cases hrun
    exact (ih (fun j v hj => hquiet j v (by omega)) hu).tickAfter (hquiet n u n.lt_succ_self hu)

/-- R85: from rest the line is low as long as no start was accepted at any tick but the last two. -/
theorem State.LineRests.runTicks_low {s t : State} {n : Nat} (h : s.LineRests)
    (hquiet : ∀ j u, j + 2 < n → Machine.runTicks j s = .next u → ¬ u.acceptsStart)
    (hrun : Machine.runTicks n s = .next t) : t.trig = false := by
  match n with
  | 0 => cases hrun; exact h.low
  | 1 => cases (runTicks_succ 0 s).symm.trans hrun; exact h.tickAfter_low
  | n + 2 =>
    obtain ⟨u, hu⟩ := runTicks_next n s
    cases (runTicks_snoc (runTicks_snoc hu)).symm.trans hrun
    exact (h.runTicks (fun j v hj => hquiet j v (by omega)) hu).tickAfter_twice_low

end Sys2Proof.Machine
end

section
/-! The statements about the trigger family that hold (40_trigger.md R80 to R87). -/

namespace Sys2Proof.Proofs

open Sys2Proof.Machine

/-- Settles O6: each of the five operations is the identity. -/
theorem holdAndPollOperationsWriteNothing : Obligations.HoldAndPollOperationsWriteNothing := by
  rintro i (rfl | rfl | rfl | rfl | rfl) s <;> exact exec_eq_after _ s

/-- Settles O7: both starts are `beginCycle`. -/
theorem startOperationsBeginACycle : Obligations.StartOperationsBeginACycle := by
  rintro i (rfl | rfl) s <;> exact (exec_eq_after _ s).trans (congrArg _ (beginCycle_eq s))

/-- Settles O8: two levels of `driveTrigger`, and the end of the pulse; 4 bits hold the phase 11. -/
theorem triggerOperationsShapeThePulse : Obligations.TriggerOperationsShapeThePulse :=
  fun s => ⟨exec_eq_after _ s, exec_eq_after _ s, fun h => by bv_omega, exec_eq_after _ s⟩

/-- Settles O16, by the two operations of `IDLE` on what the counting units leave. -/
theorem tickInIdle : Obligations.TickInIdle := by
  intro s code hr
  rw [step_eq, tickAfter_of_idle hr code, beginCycle_eq]
  rfl

/-- Settles O17, by the three phase classes. -/
theorem tickInTriggering : Obligations.TickInTriggering := by
  intro s code hr
  rw [step_eq, tickAfter_of_triggering hr code]
  refine ⟨fun h0 => ?_, fun hlo hhi => ?_, fun h11 => ?_⟩
  · have hph : s.ph = 0 := BitVec.eq_of_toNat_eq h0
    rw [if_pos h0, driveTrigger, State.counted_ph, hph]
    rfl
  · rw [if_neg (by omega), if_pos hhi]
    rfl
  · rw [if_neg (by omega), if_neg (by omega)]
    rfl

/-- Settles O45: while busy the selection ignores `start`; in the other two states an accepted start is `beginCycle`. -/
theorem startIsIgnoredWhileBusy : Obligations.StartIsIgnoredWhileBusy := by
  refine ⟨fun s t h hbusy hr he => ?_, fun s hstart => ⟨_, step_eq s, by rw [tickAfter_of_acceptsStart hstart]; rfl⟩⟩
  refine ⟨_, _, step_eq s, step_eq t, tickAfter_sameRegisters h hr ?_⟩
  have hr' : ivRst s.input = ivRst t.input := hr
  have he' : ivEcho s.input = ivEcho t.input := he
  rw [← fsmSelect_of_sameRegisters t.input h, fsmSelect, fsmSelect, hr', he']
  exact selectFsm_ignores_start ((State.busy_iff s).mp hbusy)

/-- Settles O46: outside the two waits the selection ignores `echo`; in the rise wait a high sample is the edge. -/
theorem echoIsIgnoredOutsideTheWaits : Obligations.EchoIsIgnoredOutsideTheWaits := by
  refine ⟨fun s t h code hr ha => ?_, fun s code hr he => ?_⟩
  · refine ⟨_, _, step_eq s, step_eq t, tickAfter_sameRegisters h hr ?_⟩
    have hr' : ivRst s.input = ivRst t.input := hr
    have ha' : ivStart s.input = ivStart t.input := ha
    rw [← fsmSelect_of_sameRegisters t.input h, fsmSelect, fsmSelect, hr', ha']
    exact selectFsm_ignores_echo code
  · rw [fsmOp_of_counted hr, fsmSelect_of_waitEchoRise hr code]
    exact congrArg some (if_pos he)

/-- Settles O47: tick 0 accepts the start, ticks 1 to 12 are the phases 0 to 11, and tick 12 leaves the line at rest. -/
theorem triggerTimeline : Obligations.TriggerTimeline := by
  intro s hstart hrst
  have hpulse {k : Nat} (hk : k ≤ 11) :
      ∃ u, runTicks (k + 1) s = .next u ∧ u.PulseAt k ∧ ivRst u.input = false := by
    obtain ⟨u, hrun, hu⟩ := pulseAt_runTicks hstart hk hrst
    exact ⟨u, hrun, hu, by rw [ivRst_input_runTicks hrun]; exact hrst _ (by omega)⟩
  refine ⟨fun j hj => ?_, fun n t hn hrun hquiet => ?_⟩
  · match j with
    | 0 =>
      refine ⟨s, tickAfter s, rfl, runTicks_succ 0 s, fsmOp_of_acceptsStart hstart, ?_⟩
      rw [tickAfter_of_acceptsStart hstart]
      exact ⟨rfl, rfl, rfl⟩
    | k + 1 =>
      obtain ⟨u, hu, hphase, hr⟩ := hpulse (Nat.le_of_succ_le_succ hj)
      refine ⟨u, tickAfter u, hu, runTicks_snoc hu, ?_, ?_⟩
      · simpa using hphase.op hr
      · by_cases hk : k < 11
        · have hnext := hphase.drive hr hk
          have hline : (tickAfter u).outputs.trigO = decide (1 ≤ k) := hphase.drive_trig hr hk
          exact ⟨by simpa [hk] using hnext.phase, by simp [hline, hk], by simpa [hk] using hnext.code⟩
        · rw [hphase.tickAfter_of_end hr (Nat.le_of_not_lt hk)]
          simp [hk, State.outputs]
  · obtain ⟨u, hu, hphase, hr⟩ := hpulse le_rfl
    have hrests : (tickAfter u).LineRests := by
      rw [hphase.tickAfter_of_end hr le_rfl]
      exact ⟨rfl, by simp⟩
    obtain ⟨d, rfl⟩ := Nat.exists_eq_add_of_le hn
    have hu' := runTicks_snoc hu
    rw [runTicks_add, hu'] at hrun
    exact hrests.runTicks_low (fun j v hj hv => hquiet (13 + j) v (by omega) (by omega) (runTicks_trans hu' hv)) hrun

end Sys2Proof.Proofs
end

section
/-! SUPPORT. The measured result as one record update (42_convert_resolve.md R100, R101), and the two waits for the echo
(41_echo_wait.md R97, R98): what a number of polls leaves, which poll meets the deadline, and how the fall wait begins. -/

namespace Sys2Proof.Machine

/-! ## The measured result -/

/-- R95, R100, R101, R122: what `FALL.EDGE` writes beside stopping the counter. -/
theorem resolveMeasured_eq (u : State) :
    resolveMeasured (convert u.cnt) u =
      if 118 ≤ u.cnt.toNat ∧ u.cnt.toNat ≤ 23529 then
        { u with dist := BitVec.ofNat 19 (17 * u.cnt.toNat), valid := true, cause := 0, st := 5 }
      else { u with dist := 0, valid := false, cause := 3, st := 5 } := by
  have hdist : (convert u.cnt).setWidth 19 = BitVec.ofNat 19 (17 * u.cnt.toNat) :=
    BitVec.eq_of_toNat_eq (by rw [BitVec.toNat_setWidth, convert_toNat, BitVec.toNat_ofNat])
  simp only [resolveMeasured, plausible_convert_iff, hdist, resolveValid_eq, resolveInvalid_eq]

/-- R101: 19 bits hold the product of every count that passes the filter. -/
theorem toNat_ofNat_product {d : Nat} (h : d ≤ 23529) : (BitVec.ofNat 19 (17 * d)).toNat = 17 * d := by
  rw [BitVec.toNat_ofNat]; omega

/-! ## The input of a later tick -/

theorem ivEcho_input_runTicks {n : Nat} {s t : State} (h : runTicks n s = .next t) : ivEcho t.input = s.echoAt n :=
  congrArg ivEcho (inputAt_runTicks h 0)

/-! ## The deadline of a latched wait (R114, R115) -/

/-- `k(m)` is what is left of the millisecond of the latch. -/
theorem firstWrap_add {m : Nat} (h : m ≤ 999) : firstWrap m + m = 1000 := by
  unfold firstWrap
  split <;> omega

/-- Just after the latch a wait's clock shows the divider. -/
theorem State.waitClock_of_latched {s : State} (h : s.t0 = s.msNow) : s.waitClock = s.msDiv.toNat := by
  simp [State.waitClock, elapsedMs, h]

/-- The tick that meets the deadline is the one from clock 30999. -/
theorem State.expired_counted_iff_of_waiting {s : State} (hdiv : s.msDiv.toNat < 1000) (hc : s.waitClock < 31000) :
    expired s.counted.msNow s.t0 = true ↔ s.waitClock = 30999 := by
  have hnext := State.waitClock_counted hdiv hc
  rw [State.expired_counted_iff]
  omega

/-! ## The two waits -/

/-- The rise wait and the fall wait (R90 to R92, R94 to R96). -/
inductive Wait where
  | rise
  | fall

namespace Wait

/-- The state code of the wait. -/
def code : Wait → StCode
  | rise => St.waitEchoRise
  | fall => St.waitEchoFall

/-- The level of `echo` at which the wait goes on. -/
def level : Wait → Bit
  | rise => false
  | fall => true

/-- What the wait executes while it goes on. -/
def poll : Wait → Instr
  | rise => .risePoll
  | fall => .fallPoll

/-- What ends the wait at its deadline. -/
def timeout : Wait → Instr
  | rise => .riseTimeout
  | fall => .fallTimeout

/-- What ends the wait at the edge it waits for. -/
def edge : Wait → Instr
  | rise => .riseEdge
  | fall => .fallEdge

theorem after_poll (w : Wait) (s : State) : after w.poll s = s := by cases w <;> rfl

end Wait

/-- R125: in either wait the edge comes before the deadline and the deadline before the poll. -/
theorem fsmSelect_of_wait {w : Wait} {s : State} (hr : ivRst s.input = false) (code : s.st = w.code) :
    fsmSelect s.input s.counted =
      if ivEcho s.input = w.level then if expired s.counted.msNow s.t0 then w.timeout else w.poll else w.edge := by
  cases w with
  | rise => rw [fsmSelect_of_waitEchoRise hr code]; cases ivEcho s.input <;> rfl
  | fall => rw [fsmSelect_of_waitEchoFall hr code]; cases ivEcho s.input <;> rfl

/-- `s` is a state in which a latch tick has begun the wait `w` (R84, R93). -/
structure State.WaitBegins (w : Wait) (s : State) : Prop where
  code : s.st = w.code
  latched : s.t0 = s.msNow
  divider : s.msDiv.toNat ≤ 999

/-- `u` is what `j` polls have left of the wait that was in `s`. -/
structure State.PolledFrom (s : State) (j : Nat) (u : State) : Prop where
  code : u.st = s.st
  divider : u.msDiv.toNat < 1000
  clock : u.waitClock = s.waitClock + j
  run : u.run = s.run
  stopped : s.run = false → u.cnt = s.cnt
  running : s.run = true → u.cnt.toNat = (s.cnt.toNat + j) % 65536

/-- Before the deadline a poll is what the counting units do: the clock advances, and the counter if it runs. -/
theorem State.PolledFrom.counted {s u : State} {j : Nat} (h : s.PolledFrom j u) (hj : s.waitClock + j < 31000) :
    s.PolledFrom (j + 1) u.counted := by
  have hclock := h.clock
  have hnext := State.waitClock_counted h.divider (by omega)
  refine ⟨h.code, u.counted_msDiv_lt, by omega, h.run, fun hstop => ?_, fun hrun => ?_⟩
  · rw [State.counted_cnt_of_stopped (h.run.trans hstop), h.stopped hstop]
  · have hcnt := h.running hrun
    rw [State.counted_cnt_of_running (h.run.trans hrun)]
    bv_omega

namespace State.WaitBegins

variable {w : Wait} {s : State} (h : s.WaitBegins w)
include h

/-- The clock of the wait starts at the divider, and `k(m)` is what is left of its millisecond. -/
theorem clock_add_firstWrap : s.waitClock + firstWrap s.msDiv.toNat = 1000 := by
  rw [State.waitClock_of_latched h.latched, Nat.add_comm]
  exact firstWrap_add h.divider

/-- R98: the deadline is met by the tick after `k(m) + 29999` polls. -/
theorem expired_iff {j : Nat} {u : State} (hj : j < firstWrap s.msDiv.toNat + 30000) (hu : s.PolledFrom j u) :
    expired u.counted.msNow u.t0 = true ↔ j = firstWrap s.msDiv.toNat + 29999 := by
  have hstart := h.clock_add_firstWrap
  have hclock := hu.clock
  rw [State.expired_counted_iff_of_waiting hu.divider (by omega)]
  omega

/-- R98: as long as `echo` stays at its level and the deadline is not met, the wait polls. -/
theorem polledFrom {j : Nat} (hj : j < firstWrap s.msDiv.toNat + 30000)
    (hin : ∀ i, i < j → s.rstAt i = false ∧ s.echoAt i = w.level) :
    ∃ u, Machine.runTicks j s = .next u ∧ s.PolledFrom j u := by
  have hstart := h.clock_add_firstWrap
  induction j with
  | zero =>
    have hcnt := s.cnt.isLt
    exact ⟨s, rfl, rfl, Nat.lt_succ_of_le h.divider, rfl, rfl, fun _ => rfl, fun _ => by omega⟩
  | succ j ih =>
    obtain ⟨u, hrun, hu⟩ := ih (by omega) fun i hi => hin i (by omega)
    obtain ⟨hr, he⟩ := hin j j.lt_succ_self
    rw [← ivRst_input_runTicks hrun] at hr
    rw [← ivEcho_input_runTicks hrun] at he
    have hx : ¬ expired u.counted.msNow u.t0 = true := by rw [h.expired_iff (by omega) hu]; omega
    refine ⟨tickAfter u, runTicks_snoc hrun, ?_⟩
    rw [tickAfter_of_run hr, fsmSelect_of_wait hr (hu.code.trans h.code), if_pos he, if_neg hx, w.after_poll]
    exact hu.counted (by omega)

/-- R98: which operation the tick after `j` polls executes, and what it leaves. -/
theorem tick {j : Nat} (hj : j < firstWrap s.msDiv.toNat + 30000) (hrst : ∀ i, i ≤ j → s.rstAt i = false)
    (hlevel : ∀ i, i < j → s.echoAt i = w.level) {op : Instr}
    (hop : (if s.echoAt j = w.level then if j = firstWrap s.msDiv.toNat + 29999 then w.timeout else w.poll
      else w.edge) = op) :
    ∃ u, Machine.runTicks j s = .next u ∧ s.PolledFrom j u ∧ u.fsmOp = some op ∧
      Machine.runTicks (j + 1) s = .next (after op u.counted) := by
  obtain ⟨u, hrun, hu⟩ := h.polledFrom hj fun i hi => ⟨hrst i hi.le, hlevel i hi⟩
  have hr := hrst j le_rfl
  rw [← ivRst_input_runTicks hrun] at hr
  have hselect : fsmSelect u.input u.counted = op := by
    simp only [fsmSelect_of_wait hr (hu.code.trans h.code), ivEcho_input_runTicks hrun, h.expired_iff hj hu, hop]
  refine ⟨u, hrun, hu, ?_, ?_⟩
  · rw [fsmOp_of_counted hr, hselect]
  · rw [runTicks_snoc hrun, tickAfter_of_run hr, hselect]

/-- R91, R95, R98: the edge is taken at any tick of the wait, the last one too. -/
theorem takes_edge {j : Nat} (hj : j < firstWrap s.msDiv.toNat + 30000) (hrst : ∀ i, i ≤ j → s.rstAt i = false)
    (hlevel : ∀ i, i < j → s.echoAt i = w.level) (hedge : s.echoAt j ≠ w.level) :
    ∃ u, Machine.runTicks j s = .next u ∧ s.PolledFrom j u ∧ u.fsmOp = some w.edge ∧
      Machine.runTicks (j + 1) s = .next (after w.edge u.counted) :=
  h.tick hj hrst hlevel (if_neg hedge)

/-- R90, R92, R94, R96, R98: without the edge the wait polls at each of its ticks but the last, which is the timeout. -/
theorem times_out (hin : ∀ j, j < firstWrap s.msDiv.toNat + 30000 → s.rstAt j = false ∧ s.echoAt j = w.level) :
    (∀ j, j < firstWrap s.msDiv.toNat + 29999 → ∃ u, Machine.runTicks j s = .next u ∧ u.fsmOp = some w.poll) ∧
    ∃ u, Machine.runTicks (firstWrap s.msDiv.toNat + 29999) s = .next u ∧
      s.PolledFrom (firstWrap s.msDiv.toNat + 29999) u ∧ u.fsmOp = some w.timeout ∧
      Machine.runTicks (firstWrap s.msDiv.toNat + 30000) s = .next (after w.timeout u.counted) := by
  have hrst (j : Nat) (hj : j < firstWrap s.msDiv.toNat + 30000) : ∀ i, i ≤ j → s.rstAt i = false :=
    fun i hi => (hin i (by omega)).1
  have hlevel (j : Nat) (hj : j < firstWrap s.msDiv.toNat + 30000) : ∀ i, i < j → s.echoAt i = w.level :=
    fun i hi => (hin i (by omega)).2
  refine ⟨fun j hj => ?_, ?_⟩
  · have hj' : j < firstWrap s.msDiv.toNat + 30000 := by omega
    obtain ⟨u, hrun, -, hop, -⟩ :=
      h.tick hj' (hrst j hj') (hlevel j hj') ((if_pos (hin j hj').2).trans (if_neg hj.ne))
    exact ⟨u, hrun, hop⟩
  · have hlast : firstWrap s.msDiv.toNat + 29999 < firstWrap s.msDiv.toNat + 30000 := by omega
    exact h.tick hlast (hrst _ hlast) (hlevel _ hlast) ((if_pos (hin _ hlast).2).trans (if_pos rfl))

end State.WaitBegins

/-! ## The count of the fall wait (R97) -/

/-- The fall wait begins with the counter running, the arming tick counted (R93). -/
structure State.FallWaitBegins (s : State) : Prop extends s.WaitBegins .fall where
  running : s.run = true
  count : s.cnt = 1

/-- R91, R93: two ticks without a reset from the rising edge, whatever `echo` is at the second, begin the fall wait. -/
theorem fallWaitBegins_of_edge {s : State} (code : s.st = St.waitEchoRise) (hr : s.rstAt 0 = false)
    (he : s.echoAt 0 = true) (hr' : s.rstAt 1 = false) : (tickAfter (tickAfter s)).FallWaitBegins := by
  have hedge : tickAfter s = goTo St.timing (startCounter s.counted) :=
    (tickAfter_of_waitEchoRise hr code).trans (if_pos he)
  have hcode : (tickAfter s).st = St.timing := by rw [hedge]; rfl
  have hrun : (tickAfter s).run = true := by rw [hedge]; rfl
  have hcnt : (tickAfter s).cnt = 0 := by rw [hedge]; rfl
  have hcount : (tickAfter s).counted.cnt = 1 := by rw [State.counted_cnt_of_running hrun, hcnt]; rfl
  rw [← rstAt_tickAfter] at hr'
  rw [tickAfter_of_timing hr' hcode]
  exact ⟨⟨rfl, rfl, Nat.le_of_lt_succ (State.counted_msDiv_lt _)⟩, hrun, hcount⟩

/-- R97: the tick after `j` polls reads `j + 2`: the arming tick, the polls and itself. -/
theorem State.FallWaitBegins.count_counted {s u : State} {j : Nat} (h : s.FallWaitBegins)
    (hj : j < firstWrap s.msDiv.toNat + 30000) (hu : s.PolledFrom j u) : u.counted.cnt.toNat = j + 2 := by
  have hstart := h.clock_add_firstWrap
  have hcnt : u.cnt.toNat = (1 + j) % 65536 := by simpa [h.count] using hu.running h.running
  rw [State.counted_cnt_toNat (hu.run.trans h.running) (by omega)]
  omega

/-- R95, R97: a low sample at tick `j` of the fall wait is the falling edge of a pulse of `j + 2` ticks. -/
theorem State.FallWaitBegins.measures {s : State} {j : Nat} (h : s.FallWaitBegins)
    (hj : j < firstWrap s.msDiv.toNat + 30000) (hrst : ∀ i, i ≤ j → s.rstAt i = false)
    (hhigh : ∀ i, i < j → s.echoAt i = true) (hlow : s.echoAt j = false) :
    ∃ u v, Machine.runTicks j s = .next u ∧ u.fsmOp = some .fallEdge ∧
      Machine.runTicks (j + 1) s = .next (resolveMeasured (convert v.cnt) v) ∧ v.run = false ∧ v.cnt.toNat = j + 2 := by
  obtain ⟨u, hrun, hu, hop, hrun'⟩ := h.takes_edge hj hrst hhigh (ne_of_eq_of_ne hlow Bool.false_ne_true)
  exact ⟨u, stopCounter u.counted, hrun, hop, hrun', rfl, h.count_counted hj hu⟩

end Sys2Proof.Machine
end

section
/-! The statements about the waits for the echo that hold (41_echo_wait.md R90 to R98). -/

namespace Sys2Proof.Proofs

open Sys2Proof.Machine

/-- Settles O9: the two operations write what their names say. -/
theorem edgeAndArmBeginTheMeasurement : Obligations.EdgeAndArmBeginTheMeasurement :=
  fun s => ⟨exec_eq_after .riseEdge s, exec_eq_after .timingArm s⟩

/-- Settles O10, by the filter on the count and the exact product. -/
theorem fallEdgeConvertsAndFilters : Obligations.FallEdgeConvertsAndFilters := by
  intro s
  have hexec : exec .fallEdge s = .next (resolveMeasured (convert s.cnt) (stopCounter s)) := exec_eq_after _ s
  have hresult := resolveMeasured_eq (stopCounter s)
  rw [stopCounter_cnt] at hresult
  rw [hexec, hresult]
  split_ifs with hp
  · exact ⟨_, rfl, toNat_ofNat_product hp.2, rfl⟩
  · rfl

/-- Settles O18: the edge, then the deadline, then the poll. -/
theorem tickInRiseWait : Obligations.TickInRiseWait := by
  intro s code hr
  rw [step_eq, tickAfter_of_waitEchoRise hr code, s.deadlinePassed_iff]
  refine ⟨fun he => ?_, fun he hx => ?_, fun he hx => ?_⟩
  · exact congrArg _ (if_pos he)
  · exact congrArg _ ((if_neg (ne_true_of_eq_false he)).trans (if_pos hx))
  · exact congrArg _ ((if_neg (ne_true_of_eq_false he)).trans (if_neg hx))

/-- Settles O19: `TIMING.ARM` on what the counting units leave. -/
theorem tickInTiming : Obligations.TickInTiming := by
  intro s code hr
  rw [step_eq, tickAfter_of_timing hr code]
  rfl

/-- Settles O20: the edge with the measured result, then the deadline, then the poll. -/
theorem tickInFallWait : Obligations.TickInFallWait := by
  intro s code hr
  rw [step_eq, tickAfter_of_waitEchoFall hr code, s.deadlinePassed_iff]
  refine ⟨fun he => ?_, fun he hx => ?_, fun he hx => ?_⟩
  · exact congrArg _ ((if_neg (ne_true_of_eq_false he)).trans (resolveMeasured_eq (stopCounter s.counted)))
  · exact congrArg _ ((if_pos he).trans (if_pos hx))
  · exact congrArg _ ((if_pos he).trans (if_neg hx))

/-- Settles O48: from the latch on, each wait's clock starts at the divider and reaches 31000 at tick `k(m) + 30000`; up to
that tick, and at it, the edge comes first. -/
theorem waitsLastExactlyToTheirDeadline : Obligations.WaitsLastExactlyToTheirDeadline := by
  refine ⟨fun m hm => ?_, fun s code latched hdiv stopped => ?_, fun s code latched hdiv running count => ?_⟩
  · have hwrap := firstWrap_add hm
    exact ⟨rfl, by omega, by omega⟩
  · have hs : s.WaitBegins .rise := ⟨code, latched, hdiv⟩
    refine ⟨fun hin => ?_, fun j hj hrst hlow hhigh => ?_⟩
    · obtain ⟨hpolls, u, hrun, hu, hop, hrun'⟩ := hs.times_out hin
      have hcnt := (State.counted_cnt_of_stopped (hu.run.trans stopped)).trans (hu.stopped stopped)
      exact ⟨hpolls, ⟨u, hrun, hop⟩, _, hrun', rfl, rfl, rfl, rfl, hcnt⟩
    · obtain ⟨u, hrun, -, hop, hrun'⟩ := hs.takes_edge hj hrst hlow (ne_of_eq_of_ne hhigh Bool.false_ne_true.symm)
      exact ⟨u, _, hrun, hop, hrun', rfl, rfl, rfl⟩
  · have hs : s.FallWaitBegins := ⟨⟨code, latched, hdiv⟩, running, count⟩
    refine ⟨fun hin => ?_, fun j hj hrst hhigh hlow => ?_⟩
    · obtain ⟨hpolls, u, hrun, hu, hop, hrun'⟩ := hs.times_out hin
      have hcnt := hs.count_counted (by omega) hu
      exact ⟨hpolls, ⟨u, hrun, hop⟩, _, hrun', rfl, rfl, rfl, rfl, rfl, hcnt⟩
    · obtain ⟨u, v, hrun, hop, hrun', hstop, hcnt⟩ := hs.measures hj hrst hhigh hlow
      refine ⟨u, _, hrun, hop, hrun', ?_⟩
      rw [resolveMeasured_st, resolveMeasured_run, resolveMeasured_cnt]
      exact ⟨rfl, hstop, hcnt⟩

/-- Settles O49: the edge and the arming tick begin the fall wait with a count of 1, and its falling edge at tick `f - 2`
reads `f`. -/
theorem pulseWidthIsTheTickCount : Obligations.PulseWidthIsTheTickCount := by
  intro s u f code he hrst hf hhigh hlow hrunU hle
  obtain ⟨j, rfl⟩ := Nat.exists_eq_add_of_le hf
  have hu : u = tickAfter (tickAfter s) := by
    rw [runTicks_succ, runTicks_succ] at hrunU
    cases hrunU
    rfl
  have hbegin : u.FallWaitBegins := hu ▸ fallWaitBegins_of_edge code (hrst 0 (by omega)) he (hrst 1 (by omega))
  have hinput (i : Nat) : u.inputAt i = s.inputAt (2 + i) := inputAt_runTicks hrunU i
  obtain ⟨v, x, hrun, hop, hrun', hstop, hcnt⟩ := hbegin.measures (j := j) (by omega)
    (fun i hi => by rw [State.rstAt, hinput]; exact hrst (2 + i) (by omega))
    (fun i hi => by rw [State.echoAt, hinput]; exact hhigh (2 + i) (by omega) (by omega))
    (by rw [State.echoAt, hinput]; exact hlow)
  have hcnt' : x.cnt.toNat = 2 + j := hcnt.trans (Nat.add_comm j 2)
  have hrunV := runTicks_trans hrunU hrun
  have hrunT := runTicks_trans hrunU hrun'
  refine ⟨v, _, hrunV, hop, hrunT, ?_⟩
  rw [resolveMeasured_st, resolveMeasured_run, resolveMeasured_cnt]
  refine ⟨rfl, hstop, hcnt', ?_⟩
  rw [resolveMeasured_eq, hcnt']
  split_ifs with hp
  · exact ⟨toNat_ofNat_product hp.2, rfl, rfl⟩
  · exact ⟨rfl, rfl, rfl⟩

end Sys2Proof.Proofs
end

section
/-! SUPPORT. The arithmetic of the third family (42_convert_resolve.md R100 to R102): the conversion as shift and sum, the
filter in centimetres, how far the converted distances keep from its bounds, and what a falling edge leaves of `valid`;
and the tick in a reserved state code (R106). -/

namespace Sys2Proof.Machine

/-! ## The conversion (R100) -/

theorem convert_eq_shift_add (d : Count) : convert d = (d.setWidth 21 <<< 4) + d.setWidth 21 := by
  unfold convert Config.scaleNum
  bv_omega

theorem convert_toNat_le (d : Count) : (convert d).toNat ≤ 1114095 := by
  rw [convert_toNat]; omega

/-- In centimetres the converted distance is `17 * d / 1000`, nothing rounded. -/
theorem convert_centimetres (d : Count) : ((convert d).toNat : ℚ) / 1000 = 17 * d.toNat / 1000 := by
  rw [convert_toNat]; push_cast; rfl

/-! ## The filter (R101) -/

theorem plausible_eq_false_iff (raw : RawDist) : plausible raw = false ↔ raw.toNat < 2000 ∨ 400000 < raw.toNat := by
  rw [← Bool.not_eq_true, plausible_iff]; omega

/-- R101: the counts whose product the filter rejects. -/
theorem plausible_convert_eq_false_iff (d : Count) :
    plausible (convert d) = false ↔ d.toNat < 118 ∨ 23529 < d.toNat := by
  rw [← Bool.not_eq_true, plausible_convert_iff]; omega

/-- The source's comparison, in centimetres, is the complement of the filter. -/
theorem plausible_eq_false_iff_centimetres (raw : RawDist) :
    plausible raw = false ↔ (raw.toNat : ℚ) / 1000 < 2 ∨ (400 : ℚ) < (raw.toNat : ℚ) / 1000 := by
  rw [plausible_eq_false_iff, div_lt_iff₀ (by norm_num), lt_div_iff₀ (by norm_num)]
  norm_num

theorem toNat_setWidth_of_plausible {raw : RawDist} (h : plausible raw = true) :
    (raw.setWidth 19).toNat = raw.toNat := by
  obtain ⟨-, hmax⟩ := (plausible_iff raw).mp h
  rw [BitVec.toNat_setWidth]; omega

/-- R95, R101: the filter's verdict is what `FALL.EDGE` leaves in `valid`. -/
theorem resolveMeasured_valid (raw : RawDist) (s : State) : (resolveMeasured raw s).valid = plausible raw := by
  unfold resolveMeasured
  split
  next h => exact h.symm
  next h => exact (Bool.eq_false_of_not_eq_true h).symm

theorem resolveMeasured_of_implausible {raw : RawDist} (h : plausible raw = false) (s : State) :
    resolveMeasured raw s = resolveInvalid Cause.outOfRange s :=
  if_neg (ne_true_of_eq_false h)

/-! ## The filter on an inexact product (R102) -/

/-- R101, R102: `17 * 117`, `17 * 118`, `17 * 23529` and `17 * 23530` leave a thousandth of a centimetre and more free on each
side of both bounds, so a number that close to the converted distance gets its verdict. -/
theorem plausible_convert_eq_false_iff_of_near {d : Count} {p : ℚ}
    (hnear : |p - (convert d).toNat / 1000| < 1 / 1000) : plausible (convert d) = false ↔ p < 2 ∨ 400 < p := by
  rw [convert_centimetres] at hnear
  obtain ⟨hlo, hhi⟩ := abs_lt.mp hnear
  rw [plausible_convert_eq_false_iff]
  have hcases : d.toNat ≤ 117 ∨ (118 ≤ d.toNat ∧ d.toNat ≤ 23529) ∨ 23530 ≤ d.toNat := by omega
  rcases hcases with hshort | ⟨hmin, hmax⟩ | hlong
  · have hd : (d.toNat : ℚ) ≤ 117 := by exact_mod_cast hshort
    exact iff_of_true (by omega) (.inl (by linarith))
  · have hd : (118 : ℚ) ≤ d.toNat := by exact_mod_cast hmin
    have hd' : (d.toNat : ℚ) ≤ 23529 := by exact_mod_cast hmax
    exact iff_of_false (by omega) (not_or.mpr ⟨by linarith, by linarith⟩)
  · have hd : (23530 : ℚ) ≤ d.toNat := by exact_mod_cast hlong
    exact iff_of_true (by omega) (.inr (by linarith))

/-- R102: a relative error of `23 / 10^17` on a distance below 1115 cm is an absolute one below `10^-12` cm. -/
theorem near_convert_of_relative_error {d : Count} {p : ℚ}
    (h : |p - 17 * d.toNat / 1000| ≤ 17 * d.toNat / 1000 * (23 / 10 ^ 17)) :
    |p - (convert d).toNat / 1000| < 1 / 10 ^ 12 := by
  have hd : (d.toNat : ℚ) ≤ 65535 := by exact_mod_cast Nat.le_of_lt_succ d.isLt
  rw [convert_centimetres]
  linarith

/-! ## A reserved state code (R69, R106) -/

theorem tickAfter_of_reserved {s : State} (hr : ivRst s.input = false) (h : s.st = 6 ∨ s.st = 7) :
    tickAfter s = recoverIdle s.counted := by
  rw [tickAfter_of_run hr, fsmSelect_of_reserved hr h, after_badRecover]

end Sys2Proof.Machine
end

section
/-! The statements about conversion, filter, `RESOLVED` and recovery that hold (42_convert_resolve.md R100 to R106). -/

namespace Sys2Proof.Proofs

open Sys2Proof.Machine

/-- Settles O12: the recovery is `recoverIdle`. -/
theorem recoveryLeavesAReservedCode : Obligations.RecoveryLeavesAReservedCode :=
  fun s => (exec_eq_after .badRecover s).trans (congrArg _ (recoverIdle_eq s))

/-- Settles O21, by the two operations of `RESOLVED` on what the counting units leave. -/
theorem tickInResolved : Obligations.TickInResolved := by
  intro s code hr
  rw [step_eq, tickAfter_of_resolved hr code, beginCycle_eq]
  rfl

/-- Settles O22: `BAD.RECOVER` on what the counting units leave. -/
theorem tickInReservedCode : Obligations.TickInReservedCode := by
  intro s code hr
  rw [step_eq, tickAfter_of_reserved hr code, recoverIdle_eq]

/-- Settles O32: every clause reads the exact product, which 21 bits hold. -/
theorem conversionIsExact : Obligations.ConversionIsExact := by
  refine ⟨fun d => ⟨convert_toNat d, convert_eq_shift_add d, convert_toNat_le d, ?_⟩, fun d e hlt => ?_, ?_⟩
  · rw [convert_centimetres]; ring
  · rw [convert_toNat, convert_toNat]; omega
  · decide

/-- Settles O33: the filter's bounds on the raw distance, and with the exact product its bounds on the count. -/
theorem plausibleExactlyInRange : Obligations.PlausibleExactlyInRange := by
  refine ⟨fun raw => ⟨plausible_iff raw, ?_, toNat_setWidth_of_plausible⟩,
    fun s => ⟨_, exec_eq_after .fallEdge s, resolveMeasured_valid _ _, fun h => resolveMeasured_of_implausible h _⟩,
    by decide, by decide, by decide, by decide, by decide, by decide,
    plausible_convert_iff, fun d => ?_, ?_, ?_⟩
  · rw [← plausible_eq_false_iff_centimetres, Bool.not_eq_false]
  · rw [convert_toNat]; omega
  · simp [plausible_convert_eq_false_iff]
  · simp [plausible_convert_iff]

/-- Settles O34: the error stays below `10^-12` cm, and the converted distances keep a thousandth clear of both bounds. -/
theorem integerFilterAgreesWithFloat : Obligations.IntegerFilterAgreesWithFloat := by
  intro d p h
  have hnear := near_convert_of_relative_error h
  exact ⟨plausible_convert_eq_false_iff_of_near (hnear.trans (by norm_num)), hnear⟩

end Sys2Proof.Proofs
end

section
/-! SUPPORT. The time base (43_timebase.md R110 to R115): which operation the two counting units run, the divider and the tick
source after a number of ticks as closed forms of that number, and the deadline's arithmetic on them. -/

namespace Sys2Proof.Machine

/-! ## The operations of the MS and CNT units (R63, R65), at a tick without reset -/

section

variable {s : State} (hr : ivRst s.input = false)
include hr

theorem msOp_of_run : s.msOp = if 999 ≤ s.msDiv.toNat then .msWrap else .msDiv := by
  rw [State.msOp, msWord, decode_mwOf, hr]
  simp only [selectMs, wraps_iff]
  rfl

theorem msOp_eq_msWrap_iff : s.msOp = .msWrap ↔ 999 ≤ s.msDiv.toNat := by
  rw [msOp_of_run hr]
  split_ifs with hw <;> simp [hw]

theorem cntOp_of_run : s.cntOp = if s.run then .cntInc else .cntHold := by
  rw [State.cntOp, cntWord, decode_cwOf, hr]
  rfl

end

/-! ## The divider and the tick source at one tick (R110, R111) -/

theorem State.counted_timeBase_of_below {s : State} (h : s.msDiv.toNat < 999) :
    s.counted.msDiv = s.msDiv + 1 ∧ s.counted.msNow = s.msNow := by
  simp [State.counted, Nat.not_le.mpr h]

theorem State.counted_timeBase_of_wrap {s : State} (h : 999 ≤ s.msDiv.toNat) :
    s.counted.msDiv = 0 ∧ s.counted.msNow = s.msNow + 1 := by
  simp [State.counted, h]

/-- R111: the operations of the FSM unit but `RESET` are none of those that write the divider or the tick source. -/
theorem after_timeBase_of_fsm {i : Instr} (hfsm : i.wellFormed .fsm = true) (hreset : i ≠ .reset) (s : State) :
    (after i s).msDiv = s.msDiv ∧ (after i s).msNow = s.msNow := by
  have hunits : i ∉ [Instr.reset, .msDiv, .msWrap] := by revert hfsm hreset; cases i <;> decide
  have hsub : [Instr.reset, .msWrap] ⊆ [Instr.reset, .msDiv, .msWrap] := by decide
  exact ⟨after_msDiv_of_not_writer s hunits, after_msNow_of_not_writer s fun hmem => hunits (hsub hmem)⟩

/-! ## The divider and the tick source over a run (R115) -/

section

variable {s t : State} {n : Nat} (hdiv : s.msDiv.toNat ≤ 999) (hrst : ∀ j, j < n → s.rstAt j = false)
  (hrun : runTicks n s = .next t)
include hdiv hrst hrun

/-- R115: the divider is the phase of the ticks, modulo 1000. -/
theorem runTicks_msDiv : t.msDiv.toNat = (s.msDiv.toNat + n) % 1000 := by
  obtain ⟨hdivT, hclock⟩ := runTicks_clock hdiv hrst hrun
  unfold State.clock at hclock
  omega

/-- R111, R115: the tick source advances by the whole milliseconds that the divider and the ticks make up. -/
theorem runTicks_msNow : t.msNow = s.msNow + BitVec.ofNat 16 ((s.msDiv.toNat + n) / 1000) := by
  obtain ⟨hdivT, hclock⟩ := runTicks_clock hdiv hrst hrun
  unfold State.clock at hclock
  refine BitVec.eq_of_toNat_eq ?_
  rw [BitVec.toNat_add, BitVec.toNat_ofNat]
  omega

end

/-- R111, R115: without a reset `MS.WRAP` is the MS unit's operation after `j` ticks exactly when the next tick ends a
millisecond. -/
theorem msOp_runTicks_eq_msWrap_iff {s u : State} {j : Nat} (hdiv : s.msDiv.toNat ≤ 999)
    (hrst : ∀ i, i ≤ j → s.rstAt i = false) (hrun : runTicks j s = .next u) :
    u.msOp = .msWrap ↔ (s.msDiv.toNat + (j + 1)) % 1000 = 0 := by
  have hr : ivRst u.input = false := (ivRst_input_runTicks hrun).trans (hrst j le_rfl)
  have hdivU := runTicks_msDiv hdiv (fun i hi => hrst i hi.le) hrun
  rw [msOp_eq_msWrap_iff hr]
  omega

/-- R66, R111: the FSM unit of the tick after `j` ticks sees the tick source of `j + 1` ticks. -/
theorem counted_msNow_runTicks {s u : State} {j : Nat} (hdiv : s.msDiv.toNat ≤ 999)
    (hrst : ∀ i, i ≤ j → s.rstAt i = false) (hrun : runTicks j s = .next u) :
    u.counted.msNow = s.msNow + BitVec.ofNat 16 ((s.msDiv.toNat + (j + 1)) / 1000) := by
  have hr : ivRst u.input = false := (ivRst_input_runTicks hrun).trans (hrst j le_rfl)
  rw [← (tickAfter_timeBase hr).2]
  exact runTicks_msNow hdiv (fun i hi => hrst i (Nat.le_of_lt_succ hi)) (runTicks_snoc hrun)

/-- R115: after a reset tick the divider counts the ticks, modulo 1000. -/
theorem runTicks_msDiv_of_rst {r t : State} {n : Nat} (hr : r.rstAt 0 = true)
    (hrst : ∀ i, 1 ≤ i → i ≤ n → r.rstAt i = false) (hrun : runTicks (n + 1) r = .next t) :
    t.msDiv.toNat = n % 1000 := by
  have hclear : (tickAfter r).msDiv = 0 := by rw [tickAfter_of_rst hr]; rfl
  have hrst' : ∀ j, j < n → (tickAfter r).rstAt j = false := fun j hj => by
    rw [rstAt_tickAfter]
    exact hrst (j + 1) (Nat.succ_pos j) hj
  rw [runTicks_succ] at hrun
  simpa [hclear] using runTicks_msDiv (by simp [hclear]) hrst' hrun

/-! ## The deadline (R114) -/

theorem elapsedMs_toNat (now t0 : Millis) : (elapsedMs now t0).toNat = (now.toNat + 65536 - t0.toNat) % 65536 := by
  unfold elapsedMs
  bv_omega

theorem expired_iff_of_elapsed {now t0 : Millis} {n : Nat} (h : (elapsedMs now t0).toNat = n) :
    expired now t0 = true ↔ 30 < n := by
  rw [← h]
  exact expired_iff now t0

/-- The wrapped difference undoes the wrapped sum. -/
theorem elapsedMs_add_ofNat (t0 : Millis) (n : Nat) : (elapsedMs (t0 + BitVec.ofNat 16 n) t0).toNat = n % 65536 := by
  rw [elapsedMs, BitVec.add_comm, BitVec.add_sub_cancel, BitVec.toNat_ofNat]

/-- Outside the two waits no pattern of R64 has the bit `x`. -/
theorem selectFsm_ignores_expired {r a e : Bit} {c : StCode} {p : PhaseClass} (hrise : c ≠ St.waitEchoRise)
    (hfall : c ≠ St.waitEchoFall) : selectFsm r c a e true p = selectFsm r c a e false p := by
  unfold selectFsm
  simp only [if_neg hrise, if_neg hfall]

end Sys2Proof.Machine
end

section
/-! The statements about the time base that hold (43_timebase.md R110 to R116). -/

namespace Sys2Proof.Proofs

open Sys2Proof.Machine

/-- Settles O3: below 999 the unit's word is 00, and the FSM unit leaves what the divider has counted. -/
theorem dividerAdvancesBelowItsTop : Obligations.DividerAdvancesBelowItsTop := by
  refine ⟨by decide, fun s => exec_eq_after .msDiv s, fun s hr hbelow => ?_⟩
  obtain ⟨hdivC, hnowC⟩ := State.counted_timeBase_of_below hbelow
  obtain ⟨hdivT, hnowT⟩ := tickAfter_timeBase hr
  refine ⟨(msOp_of_run hr).trans (if_neg (Nat.not_le.mpr hbelow)), tickAfter s, step_eq s, ?_, hnowT.trans hnowC⟩
  rw [hdivT, hdivC]
  bv_omega

/-- Settles O5: the two operations, and the bit of `CW` that selects between them. -/
theorem counterHoldsOrCounts : Obligations.CounterHoldsOrCounts :=
  fun s => ⟨exec_eq_after .cntHold s, exec_eq_after .cntInc s, BitVec.toNat_add s.cnt 1, cntOp_of_run⟩

/-- Settles O4: one tick at the divider's top, the frame of the FSM unit, and the divider as the number of the tick over
1000 ticks from 0. -/
theorem millisecondPassesEveryThousandTicks : Obligations.MillisecondPassesEveryThousandTicks := by
  refine ⟨by decide, fun s => exec_eq_after .msWrap s, fun s hr hwrap => ?_, fun i hfsm hreset s t hexec => ?_,
    fun s hzero hrst => ⟨fun j hj => ?_, ?_⟩⟩
  · obtain ⟨hdivC, hnowC⟩ := State.counted_timeBase_of_wrap hwrap
    obtain ⟨hdivT, hnowT⟩ := tickAfter_timeBase hr
    refine ⟨(msOp_eq_msWrap_iff hr).mpr hwrap, ⟨s.counted, atFsm_of_run hr, hnowC⟩, tickAfter s, step_eq s,
      hdivT.trans hdivC, ?_⟩
    rw [hnowT, hnowC]
    exact BitVec.toNat_add s.msNow 1
  · rw [exec_eq_after] at hexec
    cases hexec
    exact after_timeBase_of_fsm hfsm hreset s
  · have hdiv : s.msDiv.toNat = 0 := by rw [hzero]; rfl
    obtain ⟨u, hrun⟩ := runTicks_next j s
    have hdivU := runTicks_msDiv (by omega) (fun i hi => hrst i (hi.trans hj)) hrun
    have hop := msOp_runTicks_eq_msWrap_iff (by omega) (fun i hi => hrst i (hi.trans_lt hj)) hrun
    exact ⟨u, hrun, by omega, hop.trans (by omega)⟩
  · have hdiv : s.msDiv.toNat = 0 := by rw [hzero]; rfl
    obtain ⟨t, hrun⟩ := runTicks_next 1000 s
    have hdivT := runTicks_msDiv (by omega) hrst hrun
    have hnowT := runTicks_msNow (by omega) hrst hrun
    rw [hdiv] at hdivT hnowT
    exact ⟨t, hrun, BitVec.eq_of_toNat_eq hdivT, hnowT⟩

/-- Settles O35: the wrapped difference of a wrapped sum, and the patterns without the bit `x`. -/
theorem deadlineIsStrictAndWrapSafe : Obligations.DeadlineIsStrictAndWrapSafe := by
  refine ⟨fun now t0 => ⟨elapsedMs_toNat now t0, expired_iff now t0⟩, fun t0 n hn => ?_, by decide,
    fun _ _ _ _ _ => selectFsm_ignores_expired⟩
  have helapsed : (elapsedMs (t0 + BitVec.ofNat 16 n) t0).toNat = n :=
    (elapsedMs_add_ofNat t0 n).trans (Nat.mod_eq_of_lt hn)
  exact ⟨helapsed, expired_iff_of_elapsed helapsed⟩

/-- Settles O37: with `m + k(m) = 1000`, the tick `j + 1` after the latch ends a millisecond when `m + j + 1` is a multiple of
1000, and has elapsed `(m + j + 1) / 1000` of them. -/
theorem deadlineExpiresAtItsTick : Obligations.DeadlineExpiresAtItsTick := by
  refine ⟨fun s latched hdiv => ?_, fun r t n => runTicks_msDiv_of_rst⟩
  have hk := firstWrap_add hdiv
  refine ⟨by omega, by omega, fun j u hrst hrun => ?_⟩
  have hop := msOp_runTicks_eq_msWrap_iff hdiv hrst hrun
  have helapsed : (elapsedMs u.counted.msNow s.t0).toNat = (s.msDiv.toNat + (j + 1)) / 1000 % 65536 := by
    rw [counted_msNow_runTicks hdiv hrst hrun, latched, elapsedMs_add_ofNat]
  have hexpired := expired_iff_of_elapsed helapsed
  refine ⟨hop.trans (by omega), ?_, fun hbefore => ?_, fun hat => hexpired.mpr (by omega)⟩
  · rw [helapsed]
    split_ifs <;> omega
  · exact Bool.eq_false_iff.mpr (mt hexpired.mp (by omega))

end Sys2Proof.Proofs
end

section
/-! SUPPORT. The conditions of 60_exceptions.md: in which order the events of one tick are honoured (R125), and how a
condition takes effect (R123). -/

namespace Sys2Proof.Machine

/-! ## The priority in a wait (R125) -/

section

variable {w : Wait} {s : State} (hr : ivRst s.input = false) (code : s.st = w.code)
include hr code

/-- The awaited level selects the edge; the deadline has no say. -/
theorem fsmOp_of_awaited_level (he : ivEcho s.input ≠ w.level) : s.fsmOp = some w.edge := by
  rw [fsmOp_of_counted hr, fsmSelect_of_wait hr code, if_neg he]

theorem fsmOp_of_deadlinePassed (he : ivEcho s.input = w.level) (hx : s.deadlinePassed) : s.fsmOp = some w.timeout := by
  rw [fsmOp_of_counted hr, fsmSelect_of_wait hr code, if_pos he, if_pos (s.deadlinePassed_iff.mp hx)]

theorem fsmOp_of_before_deadline (he : ivEcho s.input = w.level) (hx : ¬ s.deadlinePassed) : s.fsmOp = some w.poll := by
  rw [fsmOp_of_counted hr, fsmSelect_of_wait hr code, if_pos he, if_neg (mt s.deadlinePassed_iff.mpr hx)]

end

/-! ## Taking a condition (R121 to R123) -/

/-- Each operation that can raise a condition enters `RESOLVED`, `FALL.EDGE` by a plausible distance too. -/
theorem after_st_of_raises {i : Instr} (h : i = .riseTimeout ∨ i = .fallTimeout ∨ i = .fallEdge) (s : State) :
    (after i s).st = St.resolved := by
  obtain rfl | rfl | rfl := h
  · rfl
  · rfl
  · exact resolveMeasured_st _ _

/-- R123, R25: the sentinel is on the ports as soon as the condition has been taken. -/
theorem outputs_resolveInvalid (c : CauseCode) (s : State) :
    (resolveInvalid c s).outputs =
      { s.outputs with distO := 0, validO := false, causeO := c, stateO := 5, busy := false, done := true } := rfl

theorem resolveMeasured_of_plausible {raw : RawDist} (h : plausible raw = true) (s : State) :
    resolveMeasured raw s = resolveValid (raw.setWidth 19) s := if_pos h

/-- R123: a valid outcome differs from a condition in the result registers only. -/
theorem resolveInvalid_eq_resolveValid_with (c : CauseCode) (d : Dist) (s : State) :
    resolveInvalid c s = { resolveValid d s with dist := 0, valid := false, cause := c } := rfl

end Sys2Proof.Machine
end

section
/-! The statements about the conditions that hold (60_exceptions.md R121 to R125). -/

namespace Sys2Proof.Proofs

open Sys2Proof.Machine

/-- Settles O11: each operation's equation names `resolveInvalid`, and the filter's verdict decides `FALL.EDGE`. -/
theorem conditionsResolveThroughOneMacro : Obligations.ConditionsResolveThroughOneMacro := by
  refine ⟨fun c s => ⟨resolveInvalid_eq c s, outputs_resolveInvalid c s⟩,
    fun s => ⟨exec_eq_after .riseTimeout s, exec_eq_after .fallTimeout s, fun himpl => ?_, fun hplaus => ?_⟩⟩
  · rw [exec_eq_after, after_fallEdge, resolveMeasured_of_implausible himpl]
    rfl
  · refine ⟨_, exec_eq_after .fallEdge s, resolveMeasured_st _ _, ?_⟩
    rw [after_fallEdge, resolveMeasured_of_plausible hplaus]
    exact (resolveInvalid_eq_resolveValid_with _ _ (stopCounter s)).symm

/-- Settles O23: `RESET` overrides; then, in each wait, the awaited level, the deadline and the poll, in this order; `start`
alone selects in `IDLE` and in `RESOLVED`. -/
theorem priorityOfOneTick : Obligations.PriorityOfOneTick := by
  refine fun s => ⟨fun hr => ⟨fsmOp_of_rst hr, clearAll s.takeInput, step_of_rst hr, by simp [sameRegisters]⟩,
    fun (hr : ivRst s.input = false) => ?_, fun i hi => ⟨_, exec_eq_after i s, after_st_of_raises hi s⟩⟩
  refine ⟨fun code he => ?_, fun code he => ?_, fun code he hx => ?_, fun code he hx => ?_, fun code he hx => ?_,
    fun code he hx => ?_, fun code => ?_, fun code => ?_⟩
  · exact fsmOp_of_awaited_level (w := .rise) hr code (ne_false_of_eq_true he)
  · exact fsmOp_of_awaited_level (w := .fall) hr code (ne_true_of_eq_false he)
  · exact fsmOp_of_deadlinePassed (w := .rise) hr code he hx
  · exact fsmOp_of_deadlinePassed (w := .fall) hr code he hx
  · exact fsmOp_of_before_deadline (w := .rise) hr code he hx
  · exact fsmOp_of_before_deadline (w := .fall) hr code he hx
  · exact (fsmOp_of_counted hr).trans (congrArg some (fsmSelect_of_idle hr code))
  · exact (fsmOp_of_counted hr).trans (congrArg some (fsmSelect_of_resolved hr code))

end Sys2Proof.Proofs
end

section
/-! SUPPORT. The block from any registers whatever (70_reset_and_hazards.md R141): one tick brings every code into a cycle
underway or out of it, the trigger line comes to rest, and the tick source meets any latch. -/

namespace Sys2Proof.Machine

/-! ## From any registers to `IDLE` or `RESOLVED` -/

/-- The six assigned codes and the two reserved ones (R60). -/
theorem stCode_cases_or_reserved (c : StCode) :
    c = St.idle ∨ c = St.triggering ∨ c = St.waitEchoRise ∨ c = St.timing ∨ c = St.waitEchoFall ∨ c = St.resolved ∨
      c = 6 ∨ c = 7 := by
  revert c; decide

section

variable {s : State}

/-- Whatever the latch and the divider held, a rise wait that is not expired is one that its cycle can be in. -/
theorem underway_of_rise_not_expired (code : s.st = St.waitEchoRise) (hx : ¬ expired s.counted.msNow s.t0 = true) :
    s.counted.Underway (s.counted.waitClock + 13) := by
  rw [State.expired_counted_iff] at hx
  exact .waitEchoRise code (by omega) (by omega) (by omega)

theorem underway_of_fall_not_expired (code : s.st = St.waitEchoFall) (hx : ¬ expired s.counted.msNow s.t0 = true) :
    s.counted.Underway 15 := by
  rw [State.expired_counted_iff] at hx
  exact .waitEchoFall code le_rfl (by omega) (by omega)

/-- R82 to R84: the phases 12 to 15, which no cycle meets, end the pulse as 11 does. -/
theorem underway_tickAfter_of_any_phase (hr : ivRst s.input = false) (code : s.st = St.triggering) :
    ∃ k, 2 ≤ k ∧ (tickAfter s).Underway k := by
  by_cases h11 : s.ph.toNat ≤ 11
  · exact ⟨_, by omega, underway_tickAfter_of_triggering hr code rfl (Nat.succ_le_succ h11)⟩
  · have hlt := s.counted_msDiv_lt
    have hclock : (goTo St.waitEchoRise (latchDeadline (restTrigger s.counted))).waitClock = s.counted.msDiv.toNat :=
      State.waitClock_latchDeadline (restTrigger s.counted)
    rw [tickAfter_of_triggering hr code, if_neg (by omega), if_neg (by omega)]
    exact ⟨s.counted.msDiv.toNat + 13, by omega, .waitEchoRise rfl (by omega) (by omega) (by omega)⟩

/-- R141: one tick without a reset from any registers but those of `IDLE` and `RESOLVED` leads into one of these two, or
into a cycle underway, no earlier in it than tick 2. -/
theorem tickAfter_settled_or_underway (hr : ivRst s.input = false) (hidle : s.st ≠ St.idle)
    (hresolved : s.st ≠ St.resolved) :
    ((tickAfter s).st = St.idle ∨ (tickAfter s).st = St.resolved) ∨ ∃ k, 2 ≤ k ∧ (tickAfter s).Underway k := by
  obtain code | code | code | code | code | code | code := stCode_cases_or_reserved s.st
  · exact absurd code hidle
  · exact .inr (underway_tickAfter_of_any_phase hr code)
  · rw [tickAfter_of_waitEchoRise hr code]
    split_ifs with he hx
    · exact .inr ⟨14, by omega, .timing rfl le_rfl (by omega)⟩
    · exact .inl (.inr rfl)
    · exact .inr ⟨_, by omega, underway_of_rise_not_expired code hx⟩
  · have hlt := s.counted_msDiv_lt
    have hclock := State.waitClock_latchDeadline s.counted
    rw [tickAfter_of_timing hr code]
    exact .inr ⟨15, by omega, .waitEchoFall rfl le_rfl (hclock.trans_lt (by omega)) (by omega)⟩
  · rw [tickAfter_of_waitEchoFall hr code]
    split_ifs with he hx
    · exact .inl (.inr rfl)
    · exact .inr ⟨15, by omega, underway_of_fall_not_expired code hx⟩
    · exact .inl (.inr (resolveMeasured_st _ _))
  · exact absurd code hresolved
  · rw [tickAfter_of_reserved hr code]
    exact .inl (.inl rfl)

/-- R151: a cycle at its tick `k` resolves within the ticks that are left to tick 62013. -/
theorem State.Underway.resolves {k m : Nat} (h : s.Underway k) (hdiv : s.msDiv.toNat < 1000) (hm : k + m = 62013)
    (hrst : ∀ j, j < m → s.rstAt j = false) : ∃ n t, n ≤ m ∧ Machine.runTicks n s = .next t ∧ t.st = St.resolved := by
  induction m generalizing s k with
  | zero => exact absurd h.le (by omega)
  | succ m ih =>
    obtain hnext | ⟨-, hdone⟩ := h.tickAfter (hrst 0 m.succ_pos) hdiv
    · obtain ⟨n, t, hn, hrun, ht⟩ := ih hnext (tickAfter_msDiv_lt s) (by omega) fun j hj => by
        rw [rstAt_tickAfter]
        exact hrst (j + 1) (Nat.succ_lt_succ hj)
      exact ⟨n + 1, t, Nat.succ_le_succ hn, (runTicks_succ n s).trans hrun, ht⟩
    · exact ⟨1, _, by omega, runTicks_succ 0 s, (State.done_iff _).mp hdone⟩

end

/-! ## The trigger line -/

/-- A reset tick leaves the line at rest. -/
theorem lineRests_of_rst {s : State} (hr : ivRst s.input = true) : (tickAfter s).LineRests := by
  rw [tickAfter_of_rst hr]
  exact ⟨rfl, by simp⟩

/-- R84, R140: the pulse is over after a tick that ends it or resets. -/
theorem State.PulseAt.lineRests_of_last {s : State} {k : Nat} (h : s.PulseAt k)
    (hlast : ivRst s.input = true ∨ 11 ≤ k) : (tickAfter s).LineRests := by
  cases hr : ivRst s.input with
  | true => exact lineRests_of_rst hr
  | false =>
    have hk : 11 ≤ k := hlast.resolve_left (ne_true_of_eq_false hr)
    rw [h.tickAfter_of_end hr hk]
    exact ⟨rfl, by simp⟩

/-- R82 to R84: from any phase the line is at rest after at most the ticks that are left of twelve. -/
theorem State.PulseAt.runTicks_lineRests {s : State} {k m : Nat} (h : s.PulseAt k) (hm : 11 ≤ k + m) :
    ∃ n u, n ≤ m + 1 ∧ Machine.runTicks n s = .next u ∧ u.LineRests := by
  induction m generalizing s k with
  | zero => exact ⟨1, _, le_rfl, runTicks_succ 0 s, h.lineRests_of_last (.inr hm)⟩
  | succ m ih =>
    by_cases hlast : ivRst s.input = true ∨ 11 ≤ k
    · exact ⟨1, _, by omega, runTicks_succ 0 s, h.lineRests_of_last hlast⟩
    · obtain ⟨hr, hk⟩ := not_or.mp hlast
      obtain ⟨n, u, hn, hrun, hu⟩ := ih (h.drive (Bool.eq_false_of_not_eq_true hr) (by omega)) (by omega)
      exact ⟨n + 1, u, Nat.succ_le_succ hn, (runTicks_succ n s).trans hrun, hu⟩

theorem lineRests_tickAfter_of_reserved {s : State} (code : s.st = 6 ∨ s.st = 7) : (tickAfter s).LineRests := by
  cases hr : ivRst s.input with
  | true => exact lineRests_of_rst hr
  | false =>
    rw [tickAfter_of_reserved hr code]
    exact ⟨rfl, by simp [recoverIdle_eq]⟩

/-- R141: if the line is high only where an operation will write it, it comes to rest within 12 ticks. -/
theorem runTicks_lineRests {s : State} (h : s.trig = true → s.st = 1 ∨ s.st = 6 ∨ s.st = 7) :
    ∃ k u, k ≤ 12 ∧ runTicks k s = .next u ∧ u.LineRests := by
  by_cases code : s.st = St.triggering
  · exact State.PulseAt.runTicks_lineRests ⟨code, rfl⟩ (Nat.le_add_left 11 _)
  · cases htrig : s.trig with
    | false => exact ⟨0, s, by omega, rfl, htrig, code⟩
    | true =>
      have hreserved := (h htrig).resolve_left code
      exact ⟨1, _, by omega, runTicks_succ 0 s, lineRests_tickAfter_of_reserved hreserved⟩

/-- The operations that write the trigger line are selected by a reset, in `TRIGGERING`, in a reserved code, or by an
accepted start (R26, R64). -/
theorem selectFsm_eq_trigger_writer {a e x : Bit} {c : StCode} {p : PhaseClass}
    (h : selectFsm false c a e x p ∈
      [Instr.reset, .idleStart, .trigLow, .trigHigh, .trigEnd, .resStart, .badRecover]) :
    (c = 1 ∨ c = 6 ∨ c = 7) ∨ (c = St.idle ∨ c = St.resolved) ∧ a = true := by
  revert a e x c p
  decide

/-- R80, R90 to R96, R104: outside `TRIGGERING` and the reserved codes only an accepted start or a reset writes the line. -/
theorem tickAfter_trig_of_not_written {s : State} (hr : ivRst s.input = false)
    (code : ¬ (s.st = 1 ∨ s.st = 6 ∨ s.st = 7)) (hstart : ¬ s.acceptsStart) : (tickAfter s).trig = s.trig := by
  rw [tickAfter_of_run hr]
  refine (after_trigger_of_not_writer s.counted fun hwriter => ?_).2
  rw [fsmSelect, hr] at hwriter
  obtain hcode | ⟨hcode, ha⟩ := selectFsm_eq_trigger_writer hwriter
  · exact code hcode
  · exact hstart ⟨hcode, ha, hr⟩

/-! ## The deadline of any latch -/

/-- R111, R114: with a divider below 999 the 31000 ticks make 31 whole milliseconds, so if the deadline is not expired at the
first of them it is at the last. -/
theorem expires_within_31000_of_divider_le {s : State} (t0 : Millis) (hdiv : s.msDiv.toNat ≤ 998)
    (hrst : ∀ j, j < 31000 → s.rstAt j = false) :
    ∃ j u, j ≤ 30999 ∧ runTicks j s = .next u ∧ expired u.counted.msNow t0 = true := by
  by_cases hnow : 30 < (s.msNow - t0).toNat
  · refine ⟨0, s, by omega, rfl, (expired_iff _ _).mpr ?_⟩
    rwa [(State.counted_timeBase_of_below (Nat.lt_succ_of_le hdiv)).2]
  · obtain ⟨u, hrun⟩ := runTicks_next 30999 s
    have hmsNow := counted_msNow_runTicks (by omega) (fun i hi => hrst i (Nat.lt_succ_of_le hi)) hrun
    have hmillis : (s.msDiv.toNat + (30999 + 1)) / 1000 = 31 := by omega
    rw [hmillis] at hmsNow
    refine ⟨30999, u, le_rfl, hrun, (expired_iff _ _).mpr ?_⟩
    rw [hmsNow]
    bv_omega

/-- R63, R111: a divider of 999 or more costs one tick, which takes it to 0. -/
theorem expires_within_31001_of_divider_ge {s : State} (t0 : Millis) (hdiv : 999 ≤ s.msDiv.toNat)
    (hrst : ∀ j, j ≤ 31000 → s.rstAt j = false) :
    ∃ j u, j ≤ 31000 ∧ runTicks j s = .next u ∧ expired u.counted.msNow t0 = true := by
  have hzero : (tickAfter s).msDiv = 0 :=
    (tickAfter_timeBase (hrst 0 (by omega))).1.trans (State.counted_timeBase_of_wrap hdiv).1
  obtain ⟨j, u, hj, hrun, hx⟩ := expires_within_31000_of_divider_le (s := tickAfter s) t0 (by simp [hzero]) fun j hj => by
    rw [rstAt_tickAfter]
    exact hrst (j + 1) hj
  exact ⟨j + 1, u, Nat.succ_le_succ hj, (runTicks_succ j s).trans hrun, hx⟩

/-- R114: from a divider of 999 and a latch one millisecond ahead, `j` ticks on the next tick sees `j / 1000` milliseconds
elapsed. -/
theorem elapsedMs_of_latch_ahead {s u : State} {j : Nat} (hdiv : s.msDiv.toNat = 999) (hahead : s.t0 = s.msNow + 1)
    (hrst : ∀ i, i ≤ j → s.rstAt i = false) (hrun : runTicks j s = .next u) :
    (elapsedMs u.counted.msNow s.t0).toNat = j / 1000 % 65536 := by
  have hmillis : (s.msDiv.toNat + (j + 1)) / 1000 = 1 + j / 1000 := by omega
  have hnow : u.counted.msNow = s.t0 + BitVec.ofNat 16 (j / 1000) := by
    rw [counted_msNow_runTicks hdiv.le hrst hrun, hmillis, BitVec.ofNat_add, ← BitVec.add_assoc, hahead]
    rfl
  rw [hnow, elapsedMs_add_ofNat]

end Sys2Proof.Machine
end

section
/-! The statements about reset and hazards that hold (70_reset_and_hazards.md R140 to R143). -/

namespace Sys2Proof.Proofs

open Sys2Proof.Machine

/-- Settles O1: `RESET` is `clearAll`. -/
theorem resetOperationClearsEveryRegister : Obligations.ResetOperationClearsEveryRegister :=
  fun s => (exec_eq_after .reset s).trans (congrArg _ (clearAll_eq s))

/-- Settles O43: a busy block is not in `RESOLVED`, and everywhere else the invariant has the result clear. -/
theorem resultIsClearWhileBusy : Obligations.ResultIsClearWhileBusy := by
  intro s hinv hbusy
  have hdone : s.done ≠ true := fun hdone => hinv.1.notBusyAndDone ⟨hbusy, hdone⟩
  obtain ⟨hdist, hvalid, hcause⟩ := hinv.1.resultClear (mt (State.done_iff s).mpr hdone)
  exact ⟨hdist, hvalid, hcause, Bool.eq_false_of_not_eq_true hdone⟩

/-- Settles O51: the first tick leads out of the block's cycles or into one underway, and that one resolves in the ticks that
are left to it. -/
theorem blockSettlesFromAnyRegisters : Obligations.BlockSettlesFromAnyRegisters := by
  intro s hrst
  by_cases hrest : s.st = St.idle ∨ s.st = St.resolved
  · exact ⟨0, s, by omega, rfl, hrest⟩
  obtain ⟨hidle, hresolved⟩ := not_or.mp hrest
  obtain hsettled | ⟨k, hk, hunder⟩ := tickAfter_settled_or_underway (hrst 0 (by omega)) hidle hresolved
  · exact ⟨1, _, by omega, runTicks_succ 0 s, hsettled⟩
  · have hle := hunder.le
    obtain ⟨n, t, hn, hrun, ht⟩ := hunder.resolves (m := 62013 - k) (tickAfter_msDiv_lt s) (by omega) fun j hj => by
      rw [rstAt_tickAfter]
      exact hrst (j + 1) (by omega)
    exact ⟨n + 1, t, by omega, (runTicks_succ n s).trans hrun, .inr ht⟩

/-- Settles O53: within 12 ticks the line is at rest, and from rest only a start raises it; elsewhere a high line is written by
a reset or a start, to 0, and by no other operation. -/
theorem triggerLineSettles : Obligations.TriggerLineSettles := by
  refine ⟨fun s t n htrig hn hrun hquiet => ?_, fun s high code => ⟨tickAfter s, step_eq s, ?_⟩⟩
  · obtain ⟨k, u, hk, hu, hrests⟩ := runTicks_lineRests htrig
    obtain ⟨d, rfl⟩ := Nat.exists_eq_add_of_le (hk.trans hn)
    rw [runTicks_add, hu] at hrun
    exact hrests.runTicks_low (fun j v hj hv => hquiet (k + j) v (by omega) (runTicks_trans hu hv)) hrun
  · have hcode : ¬ (s.st = 1 ∨ s.st = 6 ∨ s.st = 7) := by
      obtain h | h | h | h | h := code <;> simp [h]
    cases hr : ivRst s.input with
    | true =>
      rw [tickAfter_of_rst hr]
      exact iff_of_false Bool.false_ne_true fun ⟨hr', _⟩ => Bool.false_ne_true (hr'.symm.trans hr)
    | false =>
      by_cases hstart : s.acceptsStart
      · rw [tickAfter_of_acceptsStart hstart]
        exact iff_of_false Bool.false_ne_true fun ⟨_, hno⟩ => hno hstart
      · rw [tickAfter_trig_of_not_written hr hcode hstart]
        exact iff_of_true high ⟨hr, hstart⟩

/-- Settles O54: 31 whole milliseconds lie in 31000 ticks unless the divider starts at its top, which one tick more mends; that
tick is the difference at a latch one millisecond ahead. -/
theorem deadlineExpiresFromAnyRegisters : Obligations.DeadlineExpiresFromAnyRegisters := by
  refine ⟨fun s hrst => ?_, fun s hdiv hahead hrst j u hj hrun => ?_⟩
  · split_ifs with hdiv
    · exact expires_within_31000_of_divider_le s.t0 hdiv fun j hj => hrst j hj.le
    · exact expires_within_31001_of_divider_ge s.t0 (by omega) hrst
  · have helapsed := elapsedMs_of_latch_ahead hdiv hahead (fun i hi => hrst i (hi.trans hj)) hrun
    rw [expired_iff_of_elapsed helapsed]
    omega

end Sys2Proof.Proofs
end
